-- ==== Sys2Proof/Word.lean ====
section
/-! DEFINITION. The word types of ADCFC: the byte, the 16-bit result container and the 3-byte frame. -/

namespace Sys2Proof

/-- A byte: 8 bits, bit 0 least significant (00_scope.md R12). -/
abbrev Byte := BitVec 8

/-- The container of a conversion result, `CW` = 16 bits, unsigned (00_scope.md R11, decision D5). -/
abbrev Container := BitVec 16

/-- A channel address. `AW` is 3 on the Channel-8 Device and 2 on the Channel-4 Device (00_scope.md R10);
the model holds both in 3 bits, as the field `ADDR` of the frame does (30_encoding.md R65). DESIGN CHOICE, safe (log 16). -/
abbrev Address := BitVec 3

/-- The fixed 3-byte sequence of 00_scope.md R10 (`FRAME_LEN` = 3): the transaction buffer, an outbound frame or
an inbound frame. `b0` is the byte exchanged first (20_memory.md R42). -/
structure Frame where
  b0 : Byte
  b1 : Byte
  b2 : Byte
  deriving DecidableEq, Repr, Inhabited

end Sys2Proof
end

