-- ==== Sys2Proof/Config.lean ====
section
/-! DEFINITION. What the build of one ADCFC fixes (00_scope.md R10, R11), the constants it publishes, and the
values the spec leaves free. -/

namespace Sys2Proof

/-- `N_CH`: which of the two variants is built (00_scope.md R2). -/
inductive Variant where
  | channel8
  | channel4
  deriving DecidableEq, Repr, Inhabited

/-- `N_CH`, the number of channel identifiers (00_scope.md R10). -/
def Variant.channels : Variant → Nat
  | .channel8 => 8
  | .channel4 => 4

/-- `AW`, the width in bits of the channel address (00_scope.md R10). -/
def Variant.addressWidth : Variant → Nat
  | .channel8 => 3
  | .channel4 => 2

/-- `ERR_TYPING`: whether a select-line failure can be reported (00_scope.md R11, decision D11). -/
inductive ErrTyping where
  | typed
  | bare
  deriving DecidableEq, Repr, Inhabited

/-- `DOUBLE_FAULT`: which error is reported when the transfer and the following deassert both fail
(00_scope.md R11, decision D12). -/
inductive DoubleFault where
  | first
  | second
  | either
  deriving DecidableEq, Repr, Inhabited

/-- A level of the select line (10_state.md R23): `active` is low, `inactive` is high (00_scope.md R10). -/
inductive Level where
  | active
  | inactive
  deriving DecidableEq, Repr, Inhabited

/-- The electrical level of the line, true for high (00_scope.md R10, select-line polarity). -/
def Level.isHigh : Level → Bool
  | .active => false
  | .inactive => true

/-- The SPI mode the block publishes. The one value there is: the register is hard-wired, the same in both
variants (10_state.md R28). The names `CPOL` and `CPHA` below are PRESUMED, safe (log 15). -/
inductive SpiMode where
  | idleLowCaptureFirst
  deriving DecidableEq, Repr, Inhabited

/-- The idle level of the clock, true for high (10_state.md R28: "clock idles low"). -/
def SpiMode.cpol : SpiMode → Bool
  | .idleLowCaptureFirst => false

/-- The capturing transition, false for the first (10_state.md R28: "data captured on the first clock
transition"). -/
def SpiMode.cpha : SpiMode → Bool
  | .idleLowCaptureFirst => false

/-- The parameters of the build, fixed for the life of one block (00_scope.md R10, R11; 10_state.md R29). They are
data of the state and not constants, so that a statement over all states is one over all builds (log 4). -/
structure Build where
  /-- `N_CH`. -/
  variant : Variant
  /-- `XFAIL_DEASSERT`. -/
  xfailDeassert : Bool
  /-- `ERR_TYPING`. -/
  errTyping : ErrTyping
  /-- `DOUBLE_FAULT`. -/
  doubleFault : DoubleFault
  /-- `CS_INIT`. -/
  csInit : Level
  deriving DecidableEq, Repr, Inhabited

/-- The build of `State.reset`. The spec gives the defaults `XFAIL_DEASSERT = true`, `ERR_TYPING = TYPED`,
`DOUBLE_FAULT = EITHER` (00_scope.md R11). DESIGN CHOICE, unsafe (log 4): `N_CH` = 8 and `CS_INIT = INACTIVE`,
for which the spec gives no default. -/
def Build.default : Build where
  variant := .channel8
  xfailDeassert := true
  errTyping := .typed
  doubleFault := .either
  csInit := .inactive

/-- FREE VALUE (log 2): a byte the spec leaves undefined, `undef_8()` of 10_state.md R25, and each byte of the
buffer after a failed transfer (20_memory.md R40). Its argument is the draw's number. -/
opaque Config.freeByte : Nat → Byte

/-- FREE VALUE (log 2): whether the select line is active after a failed drive (10_state.md R23). -/
opaque Config.freeLevelIsActive : Nat → Bool

/-- FREE VALUE (log 2): whether `DOUBLE_FAULT = EITHER` reports the first failure (60_exceptions.md R140). -/
opaque Config.freeReportsFirst : Nat → Bool

end Sys2Proof
end

