-- ==== Sys2Proof/Syntax.lean ====
section
/-! DEFINITION. The instructions of ADCFC: one constructor per row of spec/opcode_table.json. -/

namespace Sys2Proof

/-- The 12 instructions of 30_encoding.md R68. The row fixes variant and channel, so no constructor has an
operand. -/
inductive Instr where
  /-- `READ_CHANNEL CH0` on the Channel-8 Device (R110). -/
  | c8ch0
  /-- `READ_CHANNEL CH1` on the Channel-8 Device (R111). -/
  | c8ch1
  /-- `READ_CHANNEL CH2` on the Channel-8 Device (R112). -/
  | c8ch2
  /-- `READ_CHANNEL CH3` on the Channel-8 Device (R113). -/
  | c8ch3
  /-- `READ_CHANNEL CH4` on the Channel-8 Device (R114). -/
  | c8ch4
  /-- `READ_CHANNEL CH5` on the Channel-8 Device (R115). -/
  | c8ch5
  /-- `READ_CHANNEL CH6` on the Channel-8 Device (R116). -/
  | c8ch6
  /-- `READ_CHANNEL CH7` on the Channel-8 Device (R117). -/
  | c8ch7
  /-- `READ_CHANNEL CH0` on the Channel-4 Device (R118). -/
  | c4ch0
  /-- `READ_CHANNEL CH1` on the Channel-4 Device (R119). -/
  | c4ch1
  /-- `READ_CHANNEL CH2` on the Channel-4 Device (R120). -/
  | c4ch2
  /-- `READ_CHANNEL CH3` on the Channel-4 Device (R121). -/
  | c4ch3
  deriving DecidableEq, Repr, Inhabited

/-- Why a frame is "not a frame of this block" (30_encoding.md R69). -/
inductive NotAFrame where
  /-- Not 3 bytes (R60: no other length). -/
  | length
  /-- `LEAD`, byte 0 bits 7:1, is not zero. -/
  | lead
  /-- `START`, byte 0 bit 0, is 0. -/
  | start
  /-- `SGL`, byte 1 bit 7, is 0: a differential-mode frame. -/
  | differential
  /-- `PAD`, byte 1 bits 3:0, is not zero. -/
  | pad
  /-- `ADDR` names no channel of this variant. -/
  | channel
  deriving DecidableEq, Repr

/-- The device an instruction belongs to (30_encoding.md R68, column "variant"). -/
def Instr.variant : Instr → Variant
  | .c8ch0 => .channel8
  | .c8ch1 => .channel8
  | .c8ch2 => .channel8
  | .c8ch3 => .channel8
  | .c8ch4 => .channel8
  | .c8ch5 => .channel8
  | .c8ch6 => .channel8
  | .c8ch7 => .channel8
  | .c4ch0 => .channel4
  | .c4ch1 => .channel4
  | .c4ch2 => .channel4
  | .c4ch3 => .channel4

end Sys2Proof
end

