-- ==== Sys2Proof/WellFormed.lean ====
section
/-! DEFINITION. When an instruction is one the device has. -/

namespace Sys2Proof

/-- An instruction is well formed for a device when it belongs to that device: "a decoder for one variant uses only
that variant's rows" (30_encoding.md R68); an operand outside the device's set cannot be presented (R70). -/
def Instr.wf (v : Variant) (i : Instr) : Bool := i.variant == v

/-- An address is one of the device when it is below `N_CH` (30_encoding.md R70, 10_state.md R30). -/
def onDevice (v : Variant) (a : Address) : Bool := decide (a.toNat < v.channels)

end Sys2Proof
end

