-- ==== Sys2Proof/Decode.lean ====
section
/-! DEFINITION. The outbound frame: its two defined bytes, the encoder, the decoder of spec/opcode_table.json's
words, and the 24-bit numbering of a frame. -/

namespace Sys2Proof

/-- `START_BYTE` (00_scope.md R10): outbound byte 0 (30_encoding.md R63). -/
def startByte : Byte := 0x01

/-- `SGL` (00_scope.md R10): the single-ended mode bit, before the shift (30_encoding.md R62). -/
def sglBit : Byte := 0b1000

/-- `CMD_SHIFT` (00_scope.md R10). -/
def cmdShift : Nat := 4

/-- Outbound byte 1, `((0b1000 | zext_8(address)) << 4)[7:0]` (30_encoding.md R62). -/
def commandByte (a : Address) : Byte := (sglBit ||| a.setWidth 8) <<< cmdShift

/-- The outbound frame for an address, with `u` in the byte that has no assigned content (30_encoding.md R62 to
R64; 41_channel_read_protocol.md R89). -/
def outFrame (a : Address) (u : Byte) : Frame where
  b0 := startByte
  b1 := commandByte a
  b2 := u

/-- The channel address an instruction stands for, its identifier's declaration position (30_encoding.md R65,
R68). -/
def Instr.address : Instr → Address
  | .c8ch0 => 0
  | .c8ch1 => 1
  | .c8ch2 => 2
  | .c8ch3 => 3
  | .c8ch4 => 4
  | .c8ch5 => 5
  | .c8ch6 => 6
  | .c8ch7 => 7
  | .c4ch0 => 0
  | .c4ch1 => 1
  | .c4ch2 => 2
  | .c4ch3 => 3

/-- The device's instructions in declaration order, so that position and address agree (10_state.md R30). -/
def deviceInstrs : Variant → List Instr
  | .channel8 => [.c8ch0, .c8ch1, .c8ch2, .c8ch3, .c8ch4, .c8ch5, .c8ch6, .c8ch7]
  | .channel4 => [.c4ch0, .c4ch1, .c4ch2, .c4ch3]

/-- The device's instruction at an address (30_encoding.md R68). -/
def instrAt (v : Variant) (a : Address) : Except NotAFrame Instr :=
  match (deviceInstrs v)[a.toNat]? with
  | some i => .ok i
  | none => .error .channel

/-- The instruction of a device whose row a frame belongs to; `TB[2]` is ignored (30_encoding.md R64, R68). A frame
the block never generates is rejected with the field that shows it (R69). -/
def decodeFrame (v : Variant) (f : Frame) : Except NotAFrame Instr :=
  if f.b0.extractLsb' 1 7 ≠ 0 then .error .lead
  else if f.b0.getLsbD 0 = false then .error .start
  else if f.b1.getLsbD 7 = false then .error .differential
  else if f.b1.extractLsb' 0 4 ≠ 0 then .error .pad
  else instrAt v (f.b1.extractLsb' 4 3)

/-- The decoder on any bytes: every frame is 3 bytes (30_encoding.md R60). -/
def decode (v : Variant) : List Byte → Except NotAFrame Instr
  | [x, y, z] => decodeFrame v ⟨x, y, z⟩
  | _ => .error .length

/-- The frame an instruction emits, with `u` in the undefined byte (30_encoding.md R68). -/
def encode (i : Instr) (u : Byte) : Frame := outFrame i.address u

/-- The bytes of a frame in the order they are exchanged (20_memory.md R42). -/
def frameBytes (f : Frame) : List Byte := [f.b0, f.b1, f.b2]

/-- A frame as one 24-bit word: `TB[0]` in bits 23:16, `TB[1]` in 15:8, `TB[2]` in 7:0 (30_encoding.md R61). -/
def frameWord (f : Frame) : BitVec 24 := f.b0 ++ f.b1 ++ f.b2

/-- The frame whose 24-bit word is given (30_encoding.md R61). -/
def wordFrame (w : BitVec 24) : Frame where
  b0 := w.extractLsb' 16 8
  b1 := w.extractLsb' 8 8
  b2 := w.extractLsb' 0 8

/-- The frame whose word in the table's numbering is the number `w`, of `nbits` bits. -/
def tableFrame (nbits w : Nat) : Frame := wordFrame (BitVec.ofNat 24 (w % 2 ^ nbits))

/-- `match` of a row (30_encoding.md R68): `0x018000 + (address << 12)`. -/
def tableMatch (i : Instr) : BitVec 24 := 0x018000#24 + (i.address.setWidth 24 <<< 12)

/-- `mask` of every row (30_encoding.md R64, R68). -/
def tableMask : BitVec 24 := 0xFFFF00#24

/-- The instruction the Channel-8 decoder reads from a table word. The four Channel-4 words are also Channel-8
words (30_encoding.md R68), and a word does not say which device is meant; the Channel-8 reading is taken because
`State.reset` is a Channel-8 Device (log 9). -/
def decodeTableWord (nbits w : Nat) : Option Instr :=
  match decode .channel8 (frameBytes (tableFrame nbits w)) with
  | .ok i => some i
  | .error _ => none

end Sys2Proof
end

