-- ==== Sys2Proof/Machine/State.lean ====
section
/-! DEFINITION. The state of ADCFC, the reasons a step can stop, and the machine right after reset. -/

namespace Sys2Proof.Machine

/-- `PH`, the step the sequencer is waiting on (10_state.md R22, R26). -/
inductive Phase where
  /-- `IDLE`: no call in flight. -/
  | idle
  /-- `ASSERT`: `SelActive()` is in flight. -/
  | assert
  /-- `XFER`: `Xfer(TB)` is in flight. -/
  | xfer
  /-- `DEASSERT`: `SelInactive()` is in flight. -/
  | deassert
  deriving DecidableEq, Repr, Inhabited

/-- The bus transport's error values of the one machine that the host's closed interface asks for. DESIGN CHOICE, safe
(log 3): every operation is written for any type in its place. -/
structure BusErr where
  token : Nat
  deriving DecidableEq, Repr, Inhabited

/-- The select-line controller's error values of that machine. DESIGN CHOICE, safe (log 3). -/
structure PinErr where
  token : Nat
  deriving DecidableEq, Repr, Inhabited

/-- An answer to `SelActive()` or `SelInactive()` (00_scope.md R14), for any type `P` of the controller's error
values. -/
inductive SelAnswer (P : Type := PinErr) where
  | ok
  | fail (p : P)
  deriving DecidableEq, Repr, Inhabited

/-- An answer to `Xfer(tx)` (00_scope.md R14), for any type `B` of the transport's error values. -/
inductive BusAnswer (B : Type := BusErr) where
  | ok (rx : Frame)
  | fail (c : B)
  deriving DecidableEq, Repr, Inhabited

/-- An event: one call together with its answer (00_scope.md R15). -/
inductive Event (B : Type := BusErr) (P : Type := PinErr) where
  | selActive (answer : SelAnswer P)
  | xfer (tx : Frame) (answer : BusAnswer B)
  | selInactive (answer : SelAnswer P)
  deriving DecidableEq, Repr

/-- The two error kinds, each with the collaborator's own value (60_exceptions.md R131 to R133). -/
inductive ReadError (B : Type := BusErr) (P : Type := PinErr) where
  | comm (c : B)
  | pin (p : P)
  deriving DecidableEq, Repr

/-- The response to one accepted command (30_encoding.md R75). -/
inductive Response (B : Type := BusErr) (P : Type := PinErr) where
  | ok (v : Container)
  | err (e : ReadError B P)
  deriving DecidableEq, Repr

/-- What the host can present (30_encoding.md R72, R74; 70_reset_and_hazards.md R160). -/
inductive HostRequest where
  /-- `NEW`, construction, which is the reset event (40_construction.md R80). -/
  | new
  /-- `READ_CHANNEL` as the abstract command of 30_encoding.md R74. -/
  | read (i : Instr)
  /-- `READ_CHANNEL` named by the frame word of its row. DESIGN CHOICE, safe (log 8): the spec gives the host
  command no bit pattern. -/
  | frame (f : Frame)
  deriving DecidableEq, Repr

/-- The state: what the spec gives one block (10_state.md R22), the environment's state its rules speak of (R23),
the build's parameters (00_scope.md R11), and the inputs that have arrived. Its arguments `B` and `P` are `BusErr` and
`PinErr`, the two types among the parameters of 00_scope.md R11: any types, of which nothing is assumed
(decision D26; 91_not_in_source.md N29). Left out they are the two types of tokens above (log 3). -/
structure State (B : Type := BusErr) (P : Type := PinErr) where
  /-- The build's parameters; no operation writes them (10_state.md R29). -/
  build : Build
  /-- `PH`. -/
  ph : Phase
  /-- `CHL`, the channel latch. -/
  chl : Address
  /-- `TB`, the transaction buffer. -/
  tb : Frame
  /-- `PERR`, a transfer error held while the deassert is attempted. -/
  perr : Option B
  /-- `MODE`, hard-wired. -/
  mode : SpiMode
  /-- `SEL`, the level of the select line, which the block never reads. -/
  sel : Level
  /-- The trace, oldest event first. -/
  trace : List (Event B P)
  /-- The responses handed to the host, oldest first (log 7). -/
  responses : List (Response B P)
  /-- What the host presents; the head is presented now (log 5). -/
  requests : List HostRequest
  /-- The select-line controller's answers that no call has taken yet, oldest first (log 6). -/
  selAnswers : List (SelAnswer P)
  /-- The bus transport's answers that no call has taken yet, oldest first (log 6). -/
  busAnswers : List (BusAnswer B)
  /-- How many free values have been drawn: the model's own field, not the spec's (log 2). -/
  draws : Nat
  deriving DecidableEq, Repr

/-- The machine has no fault: 60_exceptions.md R156 lists every outcome that is not a response, and none is a
fault. An unanswered call and a command outside `IDLE` are steps that change nothing. -/
inductive Fault where
  deriving DecidableEq, Repr

/-- Why a step is refused. Each is safe: the run stops where the spec gives no meaning. -/
inductive Refusal where
  /-- Raised by `exec` for an instruction that has no meaning yet; none has this arm now. Safe. -/
  | notModelled (mnemonic : String)
  /-- Raised by `readChannel` for an instruction of the other device, which cannot be presented to this one
  (30_encoding.md R68, R70). Safe. -/
  | notOfThisDevice
  /-- Raised by `present` for a frame word that is not a frame of this block (30_encoding.md R69). Safe. -/
  | notAFrame (why : NotAFrame)
  /-- Raised by `answerSelActive` when `ERR_TYPING = BARE` and `SelActive` answers `Fail`
  (41_channel_read_protocol.md R107; 60_exceptions.md R156 item 1). Safe. -/
  | bareAssertFailure
  /-- Raised by `newBlock` for a reset presented while a read is in progress (70_reset_and_hazards.md R161;
  60_exceptions.md R156 item 4). Safe. -/
  | resetDuringRead
  deriving DecidableEq, Repr

/-- The state after `NEW(N_CH, params)` for any build (40_construction.md R80; 10_state.md R33). DESIGN CHOICE,
unsafe (log 1): `CHL` and `TB` are zero, where the spec leaves them unspecified. -/
def State.construct (b : Build) (B : Type := BusErr) (P : Type := PinErr) : State B P where
  build := b
  ph := .idle
  chl := 0
  tb := ⟨0, 0, 0⟩
  perr := none
  mode := .idleLowCaptureFirst
  sel := b.csInit
  trace := []
  responses := []
  requests := []
  selAnswers := []
  busAnswers := []
  draws := 0

/-- The machine right after reset (70_reset_and_hazards.md R160, R163). -/
def State.reset : State := State.construct Build.default

end Sys2Proof.Machine
end

