-- ==== Sys2Proof/Machine/Operands.lean ====
section
/-! DEFINITION. The block's two operand forms: the frame built from the channel latch, and the result assembled
from the response bytes. -/

namespace Sys2Proof.Machine

variable {B P : Type}

/-- The frame of step 2, from `CHL` alone, with a draw in `TB[2]` (41_channel_read_protocol.md R89, R90). -/
def frameToSend (s : State B P) : Frame := outFrame s.chl (Config.freeByte s.draws)

/-- `RESULT_MASK` (00_scope.md R10). -/
def resultMask : Container := 0x03FF

/-- The two result bytes joined, `(zext_16(rx[1]) << 8) | zext_16(rx[2])` in 16 bits (41_channel_read_protocol.md
R97). -/
def responseWord (rx : Frame) : Container := (rx.b1.setWidth 16 <<< 8) ||| rx.b2.setWidth 16

/-- The decode of step 5, `((zext_16(rx[1]) << 8) | zext_16(rx[2])) & 0x03FF` in 16 bits
(30_encoding.md R67; 41_channel_read_protocol.md R97). -/
def decodeResult (rx : Frame) : Container := responseWord rx &&& resultMask

/-- `v` cut to the `AW` bits of the device's address (00_scope.md R10). -/
def addressOf (v : Variant) (x : Byte) : Address :=
  match v with
  | .channel8 => x.setWidth 3
  | .channel4 => (x.setWidth 2).setWidth 3

end Sys2Proof.Machine
end

