-- ==== Sys2Proof/Machine/Flags.lean ====
section
/-! DEFINITION. The only status the block produces: the tag of a read's response (10_state.md R27). -/

namespace Sys2Proof.Machine

variable {B P : Type}

/-- The binary tag of a response where one is wanted: 0 `Ok`, 1 `COMM`, 2 `PIN` (30_encoding.md R75). -/
def responseTag : Response B P → Nat
  | .ok _ => 0
  | .err (.comm _) => 1
  | .err (.pin _) => 2

/-- The response when `SelInactive` answers `Ok` (41_channel_read_protocol.md R95). -/
def responseAfterDeassert (perr : Option B) (tb : Frame) : Response B P :=
  match perr with
  | none => .ok (decodeResult tb)
  | some c => .err (.comm c)

/-- The response to a double failure under `TYPED` (41_channel_read_protocol.md R96, third row; 60_exceptions.md
R140). `reportsFirst` is the free choice that `EITHER` leaves. -/
def doubleFaultResponse (d : DoubleFault) (c : B) (p : P) (reportsFirst : Bool) : Response B P :=
  match d with
  | .first => .err (.comm c)
  | .second => .err (.pin p)
  | .either => if reportsFirst then .err (.comm c) else .err (.pin p)

/-- The response when `SelInactive` answers `Fail(p)`: the table of 41_channel_read_protocol.md R96. -/
def responseAfterFailedDeassert (b : Build) (perr : Option B) (tb : Frame) (p : P)
    (reportsFirst : Bool) : Response B P :=
  match perr, b.errTyping with
  | none, .typed => .err (.pin p)
  | none, .bare => .ok (decodeResult tb)
  | some c, .typed => doubleFaultResponse b.doubleFault c p reportsFirst
  | some c, .bare => .err (.comm c)

end Sys2Proof.Machine
end

