-- ==== Sys2Proof/Machine/Ops.lean ====
section
/-! DEFINITION. The named operations over the state: the writes, the free draws, the end of a read, the three
answers, one transition of the sequencer, acceptance, the whole read, and `NEW`. -/

namespace Sys2Proof.Machine

variable {B P : Type}

/-- The outcome of one step of this machine. -/
abbrev Result (B : Type := BusErr) (P : Type := PinErr) := Host.Outcome (State B P) Fault Refusal

/-- `PH <- p`. -/
def State.setPh (p : Phase) (s : State B P) : State B P := { s with ph := p }

/-- `CHL <- a`. -/
def State.setChl (a : Address) (s : State B P) : State B P := { s with chl := a }

/-- `TB <- f`. -/
def State.setTb (f : Frame) (s : State B P) : State B P := { s with tb := f }

/-- `PERR <- e`. -/
def State.setPerr (e : Option B) (s : State B P) : State B P := { s with perr := e }

/-- `SEL <- l`. -/
def State.setSel (l : Level) (s : State B P) : State B P := { s with sel := l }

/-- One more event of the trace. -/
def State.emit (e : Event B P) (s : State B P) : State B P := { s with trace := s.trace ++ [e] }

/-- One more response handed to the host. -/
def State.respond (r : Response B P) (s : State B P) : State B P := { s with responses := s.responses ++ [r] }

/-- `n` more free values drawn. -/
def State.drawn (n : Nat) (s : State B P) : State B P := { s with draws := s.draws + n }

/-- What the host presents from now on. -/
def State.setRequests (rs : List HostRequest) (s : State B P) : State B P := { s with requests := rs }

/-- The select-line controller's answers from now on. -/
def State.setSelAnswers (as : List (SelAnswer P)) (s : State B P) : State B P := { s with selAnswers := as }

/-- The bus transport's answers from now on. -/
def State.setBusAnswers (as : List (BusAnswer B)) (s : State B P) : State B P := { s with busAnswers := as }

/-- The level of the free draw number `n`: any level (10_state.md R23). -/
def freeLevel (n : Nat) : Level := if Config.freeLevelIsActive n then .active else .inactive

/-- `SEL` becomes any level, after a failed drive (10_state.md R23). -/
def State.freeSel (s : State B P) : State B P := (s.setSel (freeLevel s.draws)).drawn 1

/-- `TB` becomes any three bytes, after a failed transfer (20_memory.md R40). -/
def State.freeTb (s : State B P) : State B P :=
  (s.setTb ⟨Config.freeByte s.draws, Config.freeByte (s.draws + 1), Config.freeByte (s.draws + 2)⟩).drawn 3

/-- Step 2: `TB` becomes the outbound frame, whose last byte is a draw (41_channel_read_protocol.md R89). -/
def State.buildFrame (s : State B P) : State B P := (s.setTb (frameToSend s)).drawn 1

/-- The end of a read, with a value or an error: the response goes to the host and `PH <- IDLE`. Nothing is saved,
nothing restored and nothing vectored (60_exceptions.md R130, R142, R144). -/
def State.finish (r : Response B P) (s : State B P) : State B P := (s.respond r).setPh .idle

/-- The answer to `SelActive()` in `PH = ASSERT` (41_channel_read_protocol.md R88, R107). -/
def answerSelActive (a : SelAnswer P) (s : State B P) : Result B P :=
  match a with
  | .ok => .next ((((s.emit (.selActive .ok)).setSel .active).buildFrame).setPh .xfer)
  | .fail p =>
    match s.build.errTyping with
    | .typed => .next (((s.emit (.selActive (.fail p))).freeSel).finish (.err (.pin p)))
    | .bare => .refused .bareAssertFailure

/-- The answer to `Xfer(TB)` in `PH = XFER` (41_channel_read_protocol.md R92, R93). -/
def answerXfer (a : BusAnswer B) (s : State B P) : Result B P :=
  match a with
  | .ok rx => .next (((s.emit (.xfer s.tb (.ok rx))).setTb rx).setPh .deassert)
  | .fail c =>
    if s.build.xfailDeassert then
      .next ((((s.emit (.xfer s.tb (.fail c))).freeTb).setPerr (some c)).setPh .deassert)
    else
      .next (((s.emit (.xfer s.tb (.fail c))).freeTb).finish (.err (.comm c)))

/-- The answer to `SelInactive()` in `PH = DEASSERT` (41_channel_read_protocol.md R95 to R97). -/
def answerSelInactive (a : SelAnswer P) (s : State B P) : Result B P :=
  match a with
  | .ok =>
    .next (((s.emit (.selInactive .ok)).setSel .inactive).finish (responseAfterDeassert s.perr s.tb))
  | .fail p =>
    .next ((((s.emit (.selInactive (.fail p))).freeSel).drawn 1).finish
      (responseAfterFailedDeassert s.build s.perr s.tb p (Config.freeReportsFirst (s.draws + 1))))

/-- One transition of the sequencer (10_state.md R26). With no answer to the call in flight, and in `IDLE`, no
transition is enabled and the state stays as it is (41_channel_read_protocol.md R106). -/
def advance (s : State B P) : Result B P :=
  match s.ph with
  | .idle => .next s
  | .assert =>
    match s.selAnswers with
    | [] => .next s
    | a :: rest => answerSelActive a (s.setSelAnswers rest)
  | .xfer =>
    match s.busAnswers with
    | [] => .next s
    | a :: rest => answerXfer a (s.setBusAnswers rest)
  | .deassert =>
    match s.selAnswers with
    | [] => .next s
    | a :: rest => answerSelInactive a (s.setSelAnswers rest)

/-- At most `n` transitions of the sequencer, one after the other. -/
def advances : Nat → State B P → Result B P
  | 0, s => .next s
  | n + 1, s =>
    match advance s with
    | .next t => advances n t
    | .fault r => .fault r
    | .refused r => .refused r

/-- Acceptance of `READ_CHANNEL a` (41_channel_read_protocol.md R86). -/
def accept (a : Address) (s : State B P) : State B P := ((s.setChl a).setPerr none).setPh .assert

/-- `READ_CHANNEL a` on the device `v`: accepted in `IDLE` only (41_channel_read_protocol.md R85), and then taken as
far as the collaborators have answered. A read makes at most three calls, so three transitions end it when all are
answered (R99, R101). DESIGN CHOICE, safe: one step for a whole answered read (log 11), and the refusal of the other
device's instruction (log 14). -/
def readChannel (v : Variant) (a : Address) (s : State B P) : Result B P :=
  if s.build.variant = v then
    if s.ph = .idle then advances 3 (accept a s) else .next s
  else .refused .notOfThisDevice

/-- `NEW` presented to a running block: the reset, which makes no call and leaves `SEL` as it is
(40_construction.md R80, R83; DEDUCED, unsafe, log 10). `CHL` and `TB` are left unspecified, so they are drawn
(log 2). It is refused while a read is in progress (70_reset_and_hazards.md R161). -/
def newBlock (s : State B P) : Result B P :=
  if s.ph = .idle then
    .next { ((s.setChl (addressOf s.build.variant (Config.freeByte s.draws))).drawn 1).freeTb with
      ph := .idle, perr := none, trace := [], responses := [] }
  else .refused .resetDuringRead

end Sys2Proof.Machine
end

