-- ==== Sys2Proof/Machine/ReadChannel4.lean ====
section
/-! DEFINITION. The meanings of `READ_CHANNEL CH0` to `READ_CHANNEL CH3` on the Channel-4 Device
(43_read_channel4.md R118 to R121): each is the read of 41_channel_read_protocol.md R100 on its own address. -/

namespace Sys2Proof.Machine

variable {B P : Type}

/-- `READ_CHANNEL CH0` on the Channel-4 Device (43_read_channel4.md R118). -/
def execC4Ch0 (s : State B P) : Result B P := readChannel .channel4 0 s

/-- `READ_CHANNEL CH1` on the Channel-4 Device (43_read_channel4.md R119). -/
def execC4Ch1 (s : State B P) : Result B P := readChannel .channel4 1 s

/-- `READ_CHANNEL CH2` on the Channel-4 Device (43_read_channel4.md R120). -/
def execC4Ch2 (s : State B P) : Result B P := readChannel .channel4 2 s

/-- `READ_CHANNEL CH3` on the Channel-4 Device (43_read_channel4.md R121). -/
def execC4Ch3 (s : State B P) : Result B P := readChannel .channel4 3 s

end Sys2Proof.Machine
end

