-- ==== Sys2Proof/Machine/ReadChannel8.lean ====
section
/-! DEFINITION. The meanings of `READ_CHANNEL CH0` to `READ_CHANNEL CH7` on the Channel-8 Device
(42_read_channel8.md R110 to R117): each is the read of 41_channel_read_protocol.md R100 on its own address. -/

namespace Sys2Proof.Machine

variable {B P : Type}

/-- `READ_CHANNEL CH0` on the Channel-8 Device (42_read_channel8.md R110). -/
def execC8Ch0 (s : State B P) : Result B P := readChannel .channel8 0 s

/-- `READ_CHANNEL CH1` on the Channel-8 Device (42_read_channel8.md R111). -/
def execC8Ch1 (s : State B P) : Result B P := readChannel .channel8 1 s

/-- `READ_CHANNEL CH2` on the Channel-8 Device (42_read_channel8.md R112). -/
def execC8Ch2 (s : State B P) : Result B P := readChannel .channel8 2 s

/-- `READ_CHANNEL CH3` on the Channel-8 Device (42_read_channel8.md R113). -/
def execC8Ch3 (s : State B P) : Result B P := readChannel .channel8 3 s

/-- `READ_CHANNEL CH4` on the Channel-8 Device (42_read_channel8.md R114). -/
def execC8Ch4 (s : State B P) : Result B P := readChannel .channel8 4 s

/-- `READ_CHANNEL CH5` on the Channel-8 Device (42_read_channel8.md R115). -/
def execC8Ch5 (s : State B P) : Result B P := readChannel .channel8 5 s

/-- `READ_CHANNEL CH6` on the Channel-8 Device (42_read_channel8.md R116). -/
def execC8Ch6 (s : State B P) : Result B P := readChannel .channel8 6 s

/-- `READ_CHANNEL CH7` on the Channel-8 Device (42_read_channel8.md R117). -/
def execC8Ch7 (s : State B P) : Result B P := readChannel .channel8 7 s

end Sys2Proof.Machine
end

