-- ==== Sys2Proof/Machine/Dispatch.lean ====
section
/-! DEFINITION. One arm per instruction, each a direct call of its meaning. -/

namespace Sys2Proof.Machine

/-- What an instruction does. -/
def exec (i : Instr) (s : State) : Host.Outcome State Fault Refusal :=
  match i with
  | .c8ch0 => Sys2Proof.Machine.execC8Ch0 s
  | .c8ch1 => Sys2Proof.Machine.execC8Ch1 s
  | .c8ch2 => Sys2Proof.Machine.execC8Ch2 s
  | .c8ch3 => Sys2Proof.Machine.execC8Ch3 s
  | .c8ch4 => Sys2Proof.Machine.execC8Ch4 s
  | .c8ch5 => Sys2Proof.Machine.execC8Ch5 s
  | .c8ch6 => Sys2Proof.Machine.execC8Ch6 s
  | .c8ch7 => Sys2Proof.Machine.execC8Ch7 s
  | .c4ch0 => Sys2Proof.Machine.execC4Ch0 s
  | .c4ch1 => Sys2Proof.Machine.execC4Ch1 s
  | .c4ch2 => Sys2Proof.Machine.execC4Ch2 s
  | .c4ch3 => Sys2Proof.Machine.execC4Ch3 s

end Sys2Proof.Machine
end

