-- ==== Sys2Proof/Machine/Present.lean ====
section
/-! DEFINITION. How the block takes what the host presents: the fetch of this machine. -/

namespace Sys2Proof.Machine

variable {B P : Type}

/-- One step: a presented `NEW` is the reset (70_reset_and_hazards.md R160, R161). A presented read is accepted in
`IDLE` only and stays the host's otherwise (41_channel_read_protocol.md R85); while a read is in progress the answer
to the call in flight enables the one transition there is (R106). In `IDLE` with nothing presented the block waits
(70_reset_and_hazards.md R163). DESIGN CHOICE, safe: the head of the list is what is presented now (log 5), and a command
may be presented as its row's frame (log 8). `run` is what an instruction does. -/
def present (run : Instr → State B P → Result B P) (s : State B P) : Result B P :=
  match s.requests with
  | [] => advance s
  | .new :: rest => newBlock (s.setRequests rest)
  | .read i :: rest =>
    match s.ph with
    | .idle => run i (s.setRequests rest)
    | _ => advance s
  | .frame f :: rest =>
    match s.ph with
    | .idle =>
      match decode s.build.variant (frameBytes f) with
      | .ok i => run i (s.setRequests rest)
      | .error why => .refused (.notAFrame why)
    | _ => advance s

/-- `s` idle, with one command presented: the one whose table word is `w`. -/
def presentWord (nbits w : Nat) (s : State B P) : State B P :=
  (s.setRequests [.frame (tableFrame nbits w)]).setPh .idle

end Sys2Proof.Machine
end

