-- ==== Sys2Proof/Machine/Step.lean ====
section
/-! DEFINITION. One step of the machine, and how a table word is put where the step takes its next instruction. -/

namespace Sys2Proof.Machine

/-- One step of the machine: what is presented, or one transition of the read in progress. -/
def step (s : State) : Host.Outcome State Fault Refusal := present exec s

/-- `s` with the instruction whose table word is `w` presented to an idle block, so that the next step runs it
(log 9). -/
def State.withFetchWord (s : State) (nbits w : Nat) : State := presentWord nbits w s

end Sys2Proof.Machine
end

