-- ==== Sys2Proof/Machine/Parametric.lean ====
section
/-! DEFINITION. The machine with the two error types of 00_scope.md R11 as its arguments. `exec` and `step` are this one
at `BusErr` and `PinErr`: their names and types are fixed by the host's interface, and both call the same meanings. -/

namespace Sys2Proof.Machine

variable {B P : Type}

/-- What an instruction does, for any two types of error values (00_scope.md R11, decision D26). -/
def execOf (i : Instr) (s : State B P) : Result B P :=
  match i with
  | .c8ch0 => execC8Ch0 s
  | .c8ch1 => execC8Ch1 s
  | .c8ch2 => execC8Ch2 s
  | .c8ch3 => execC8Ch3 s
  | .c8ch4 => execC8Ch4 s
  | .c8ch5 => execC8Ch5 s
  | .c8ch6 => execC8Ch6 s
  | .c8ch7 => execC8Ch7 s
  | .c4ch0 => execC4Ch0 s
  | .c4ch1 => execC4Ch1 s
  | .c4ch2 => execC4Ch2 s
  | .c4ch3 => execC4Ch3 s

/-- One step, for any two types of error values. -/
def stepOf (s : State B P) : Result B P := present execOf s

end Sys2Proof.Machine
end

