-- ==== Sys2Proof/Machine/Reference.lean ====
section
/-! DEFINITION. The whole read as one blocking function, written from the pseudocode of 41_channel_read_protocol.md
R100 alone: it uses none of the machine's operations, so that the machine can be compared with it. -/

namespace Sys2Proof.Machine

variable {B P : Type}

/-- What a read that ends leaves: its trace, its response, and the level of `SEL`, `none` where R100 says `any`. -/
structure ReadRecord (B P : Type) where
  trace : List (Event B P)
  response : Response B P
  sel : Option Level
  deriving DecidableEq, Repr

/-- `read_channel(a)` of R100 for a build, given `undef_8()`, the outcome of `choose`, and the answers of the three
calls (an answer whose call is not made is not looked at). `none` is R100's `refuse`. -/
def referenceRead (b : Build) (a : Address) (u : Byte) (chooseFirst : Bool) (first : SelAnswer P) (bus : BusAnswer B)
    (last : SelAnswer P) : Option (ReadRecord B P) :=
  match first with
  | .fail p =>
    if b.errTyping = .typed then some ⟨[.selActive (.fail p)], .err (.pin p), none⟩ else none
  | .ok =>
    let tx : Frame := ⟨0x01, (0b1000#8 ||| a.setWidth 8) <<< 4, u⟩
    match bus with
    | .fail c =>
      if b.xfailDeassert = false then
        some ⟨[.selActive .ok, .xfer tx (.fail c)], .err (.comm c), some .active⟩
      else
        let es : List (Event B P) := [.selActive .ok, .xfer tx (.fail c), .selInactive last]
        match last with
        | .ok => some ⟨es, .err (.comm c), some .inactive⟩
        | .fail p =>
          if b.errTyping = .bare then some ⟨es, .err (.comm c), none⟩
          else
            match b.doubleFault with
            | .first => some ⟨es, .err (.comm c), none⟩
            | .second => some ⟨es, .err (.pin p), none⟩
            | .either => some ⟨es, if chooseFirst then .err (.comm c) else .err (.pin p), none⟩
    | .ok rx =>
      let es : List (Event B P) := [.selActive .ok, .xfer tx (.ok rx), .selInactive last]
      let v : Container := ((rx.b1.setWidth 16 <<< 8) ||| rx.b2.setWidth 16) &&& 0x03FF
      match last with
      | .ok => some ⟨es, .ok v, some .inactive⟩
      | .fail p =>
        if b.errTyping = .typed then some ⟨es, .err (.pin p), none⟩ else some ⟨es, .ok v, none⟩

end Sys2Proof.Machine
end

