-- ==== Sys2Proof/Safety.lean ====
section
/-! DEFINITION. The terms in which claims about the machine are stated: well-formed states, the list of traces a read
can have, the history of one block, what two reads have in common, answers that arrive as a
run goes, and the replacing of error values. -/

namespace Sys2Proof.Machine

/-- What holds of the transient registers between steps: the latch names a channel of the device (R22, R70), `PERR` is
empty until a transfer has failed (R86, R93), the frame waiting to be sent is that of the latch (R89), and the line is
active while the transfer or the deassert is awaited (R88, R92, R172). -/
structure State.Wf {B P : Type} (s : State B P) : Prop where
  latch_on_device : onDevice s.build.variant s.chl = true
  assert_perr : s.ph = .assert → s.perr = none
  xfer_perr : s.ph = .xfer → s.perr = none
  xfer_frame : s.ph = .xfer → ∃ u, s.tb = outFrame s.chl u
  xfer_active : s.ph = .xfer → s.sel = .active
  deassert_active : s.ph = .deassert → s.sel = .active
  deassert_perr : s.ph = .deassert → s.perr ≠ none → s.build.xfailDeassert = true

/-- The host is not presenting a reset. -/
abbrev NoResetPresented (s : State) : Prop := s.requests.head? ≠ some .new

/-- The response column of row T5 of 41_channel_read_protocol.md R101. -/
def IsDoubleFaultResponse (b : Build) (c : BusErr) (p : PinErr) (r : Response) : Prop :=
  match b.errTyping, b.doubleFault with
  | .bare, _ => r = .err (.comm c)
  | .typed, .first => r = .err (.comm c)
  | .typed, .second => r = .err (.pin p)
  | .typed, .either => r = .err (.comm c) ∨ r = .err (.pin p)

/-- The outbound frame of address `a`, whatever its undefined byte (41_channel_read_protocol.md R101). -/
def IsFrameOf (a : Address) (tx : Frame) : Prop :=
  tx.b0 = 0x01 ∧ tx.b1.toNat = 0x80 + 16 * a.toNat

/-- The table of 41_channel_read_protocol.md R101, rows T1 to T6: the trace of a whole read of address `a`, its
response, and the level of the line afterwards. -/
def IsRead (b : Build) (a : Address) (es : List Event) (r : Response) (l : Level) : Prop :=
  match es with
  | [.selActive .ok, .xfer tx (.ok rx), .selInactive .ok] =>
    IsFrameOf a tx ∧ r = .ok (decodeResult rx) ∧ l = .inactive
  | [.selActive (.fail p)] => b.errTyping = .typed ∧ r = .err (.pin p)
  | [.selActive .ok, .xfer tx (.fail c)] =>
    IsFrameOf a tx ∧ b.xfailDeassert = false ∧ r = .err (.comm c) ∧ l = .active
  | [.selActive .ok, .xfer tx (.fail c), .selInactive .ok] =>
    IsFrameOf a tx ∧ b.xfailDeassert = true ∧ r = .err (.comm c) ∧ l = .inactive
  | [.selActive .ok, .xfer tx (.fail c), .selInactive (.fail p)] =>
    IsFrameOf a tx ∧ b.xfailDeassert = true ∧ IsDoubleFaultResponse b c p r
  | [.selActive .ok, .xfer tx (.ok rx), .selInactive (.fail p)] =>
    IsFrameOf a tx ∧ (b.errTyping = .typed → r = .err (.pin p)) ∧ (b.errTyping = .bare → r = .ok (decodeResult rx))
  | _ => False

/-- The events so far of the read in progress, as `PH`, `CHL`, `TB` and `PERR` tell them. -/
def InProgress (s : State) (es : List Event) : Prop :=
  match s.ph with
  | .idle => es = []
  | .assert => es = []
  | .xfer => es = [.selActive .ok]
  | .deassert =>
    ∃ tx, IsFrameOf s.chl tx ∧
      match s.perr with
      | none => es = [.selActive .ok, .xfer tx (.ok s.tb)]
      | some c => es = [.selActive .ok, .xfer tx (.fail c)]

/-- The whole trace of a block is that of complete reads, one after the other, with exactly one response each, and then
the events of the read in progress (20_memory.md R49, R50; 30_encoding.md R75). -/
def History (s : State) : Prop :=
  ∃ (reads : List (List Event × Response)) (now : List Event),
    (∀ x ∈ reads, ∃ a l, onDevice s.build.variant a = true ∧ IsRead s.build a x.1 x.2 l) ∧
    InProgress s now ∧
    s.trace = (reads.map (·.1)).flatten ++ now ∧
    s.responses = reads.map (·.2)

/-- The transitions of `PH`, each with the event that makes it (10_state.md R26). -/
def PhaseEdge (b : Build) : Phase → Event → Phase → Prop
  | .assert, .selActive .ok, .xfer => True
  | .assert, .selActive (.fail _), .idle => True
  | .xfer, .xfer _ (.ok _), .deassert => True
  | .xfer, .xfer _ (.fail _), .deassert => b.xfailDeassert = true
  | .xfer, .xfer _ (.fail _), .idle => b.xfailDeassert = false
  | .deassert, .selInactive _, .idle => True
  | _, _, _ => False

/-- Two idle blocks of one build that are given the same answers in their next read, which takes at most two of the
select-line controller and one of the bus transport (20_memory.md R46), and the same free values (log 2). All that
earlier reads left may differ, and so may the answers of later reads (10_state.md R20). -/
structure SameInputs (s t : State) : Prop where
  build : s.build = t.build
  idle_left : s.ph = .idle
  idle_right : t.ph = .idle
  selAnswers : s.selAnswers.take 2 = t.selAnswers.take 2
  busAnswers : s.busAnswers.take 1 = t.busAnswers.take 1
  draws : s.draws = t.draws

/-- The events of a trace that are transfers. -/
def xferCount (es : List Event) : Nat := es.countP fun e => match e with | .xfer _ _ => true | _ => false

/-- The events of a trace that are calls of `SelActive`. -/
def selActiveCount (es : List Event) : Nat := es.countP fun e => match e with | .selActive _ => true | _ => false

/-- The events of a trace that are calls of `SelInactive`. -/
def selInactiveCount (es : List Event) : Nat :=
  es.countP fun e => match e with | .selInactive _ => true | _ => false

/-- An outcome with its next state changed by `h`; a fault or a refusal stays as it is. -/
def Result.onNext {B P B' P' : Type} (h : State B P → State B' P') : Result B P → Result B' P'
  | .next s => .next (h s)
  | .fault r => .fault r
  | .refused r => .refused r

/-- Answers that arrive together, between two steps. -/
structure Arrivals where
  sel : List SelAnswer
  bus : List BusAnswer
  deriving DecidableEq, Repr

/-- No answer arrives. -/
def Arrivals.nothing : Arrivals := ⟨[], []⟩

/-- `s` with more answers that have arrived, after those that no call has taken yet. -/
def State.arrive (m : Arrivals) (s : State) : State :=
  { s with selAnswers := s.selAnswers ++ m.sel, busAnswers := s.busAnswers ++ m.bus }

/-- A run that is given answers as it goes: before each step those of one entry of the list arrive. -/
def runWithArrivals : List Arrivals → State → Result
  | [], s => .next s
  | m :: ms, s =>
    match step (s.arrive m) with
    | .next t => runWithArrivals ms t
    | .fault r => .fault r
    | .refused r => .refused r

section ErrorValues

variable {B P B' P' : Type}

/-- Error values replaced, in one answer of the select-line controller. -/
def SelAnswer.mapErrors (g : P → P') : SelAnswer P → SelAnswer P'
  | .ok => .ok
  | .fail p => .fail (g p)

/-- Error values replaced, in one answer of the bus transport. -/
def BusAnswer.mapErrors (f : B → B') : BusAnswer B → BusAnswer B'
  | .ok rx => .ok rx
  | .fail c => .fail (f c)

/-- Error values replaced, in one event. -/
def Event.mapErrors (f : B → B') (g : P → P') : Event B P → Event B' P'
  | .selActive a => .selActive (a.mapErrors g)
  | .xfer tx a => .xfer tx (a.mapErrors f)
  | .selInactive a => .selInactive (a.mapErrors g)

/-- Error values replaced, in one response. -/
def Response.mapErrors (f : B → B') (g : P → P') : Response B P → Response B' P'
  | .ok v => .ok v
  | .err (.comm c) => .err (.comm (f c))
  | .err (.pin p) => .err (.pin (g p))

/-- Error values replaced, everywhere in a state. -/
def State.mapErrors (f : B → B') (g : P → P') (s : State B P) : State B' P' where
  build := s.build
  ph := s.ph
  chl := s.chl
  tb := s.tb
  perr := s.perr.map f
  mode := s.mode
  sel := s.sel
  trace := s.trace.map (Event.mapErrors f g)
  responses := s.responses.map (Response.mapErrors f g)
  requests := s.requests
  selAnswers := s.selAnswers.map (SelAnswer.mapErrors g)
  busAnswers := s.busAnswers.map (BusAnswer.mapErrors f)
  draws := s.draws

end ErrorValues

/-- The state after a read of address `a` whose three calls all answered `Ok` (trace T1 of
41_channel_read_protocol.md R101): `tx` was sent, `rx` came back, and `sa`, `ba` are the answers left. Every field not
named is as in `s`. -/
def afterGoodRead (s : State) (a : Address) (tx rx : Frame) (sa : List SelAnswer) (ba : List BusAnswer) (d : Nat) :
    State :=
  { s with
    ph := .idle
    chl := a
    tb := rx
    perr := none
    sel := .inactive
    trace := s.trace ++ [.selActive .ok, .xfer tx (.ok rx), .selInactive .ok]
    responses := s.responses ++ [.ok (((rx.b1.setWidth 16 <<< 8) ||| rx.b2.setWidth 16) &&& 0x03FF)]
    selAnswers := sa
    busAnswers := ba
    draws := d }

/-- The state after a read of address `a` that ended with an error: `es` are its events, `e` its error, `tb`, `perr`
and `l` what the buffer, `PERR` and the line are left at. Every field not named is as in `s`. -/
def afterFailedRead (s : State) (a : Address) (es : List Event) (e : ReadError) (tb : Frame) (perr : Option BusErr)
    (l : Level) (sa : List SelAnswer) (ba : List BusAnswer) (d : Nat) : State :=
  { s with
    ph := .idle
    chl := a
    tb := tb
    perr := perr
    sel := l
    trace := s.trace ++ es
    responses := s.responses ++ [.err e]
    selAnswers := sa
    busAnswers := ba
    draws := d }

end Sys2Proof.Machine
end

