-- ==== Sys2Proof/Certificates/Slice0/Obligations.lean ====
section
/-! DEFINITION. The statements about ADCFC, each a Prop under Obligations. -/

open Sys2Proof Sys2Proof.Machine

/-- 10_state.md R33: what reset leaves, for every build. -/
def Obligations.ResetLeavesStatedValues : Prop :=
  (∀ b : Build,
    (State.construct b).build = b ∧ (State.construct b).ph = .idle ∧ (State.construct b).perr = none ∧
    (State.construct b).mode.cpol = false ∧ (State.construct b).mode.cpha = false ∧
    (State.construct b).trace = [] ∧ (State.construct b).responses = [] ∧ (State.construct b).sel = b.csInit) ∧
  ∃ b, State.reset = State.construct b

/-- The invariants hold at reset, for every build. That the latch names a channel there rests on the model's choice of
zero (log 1). -/
def Obligations.ResetMeetsTheInvariants : Prop :=
  ∀ b : Build, (State.construct b).Wf ∧ History (State.construct b)

/-- 10_state.md R28: `MODE` reads as its constant in every state. -/
def Obligations.ModeIsHardwired : Prop :=
  ∀ s : State, s.mode.cpol = false ∧ s.mode.cpha = false

/-- Words written out from 30_encoding.md R68 and 95_test_vectors.md section 2.2. -/
def Obligations.WrittenWordsDecode : Prop :=
  decode .channel8 [0x01, 0x80, 0x00] = .ok .c8ch0 ∧
  decode .channel8 [0x01, 0xF0, 0x5A] = .ok .c8ch7 ∧
  decode .channel4 [0x01, 0xB0, 0x00] = .ok .c4ch3 ∧
  decode .channel4 [0x01, 0xC0, 0x00] = .error .channel ∧
  decode .channel8 [0x01, 0x00, 0x00] = .error .differential ∧
  decode .channel8 [0x01, 0x81, 0x00] = .error .pad ∧
  decode .channel8 [0x00, 0x80, 0x00] = .error .start ∧
  decode .channel8 [0x03, 0x80, 0x00] = .error .lead

/-- 30_encoding.md R62, R63: the two defined bytes of an outbound frame, bit by bit, for every address. -/
def Obligations.OutboundBytesBitByBit : Prop :=
  ∀ (a : Address) (u : Byte),
    (outFrame a u).b0 = 0x01 ∧
    (outFrame a u).b0.extractLsb' 1 7 = 0 ∧ (outFrame a u).b0.getLsbD 0 = true ∧
    (outFrame a u).b1 = (0b1000#8 ||| a.setWidth 8) <<< 4 ∧
    (outFrame a u).b1.getLsbD 7 = true ∧ (outFrame a u).b1.extractLsb' 4 3 = a ∧
    (outFrame a u).b1.extractLsb' 0 4 = 0 ∧ (outFrame a u).b2 = u

/-- Decoding what was encoded gives the instruction back, whatever the undefined byte holds, and it belongs to the
device. -/
def Obligations.EncodedInstructionDecodesBack : Prop :=
  ∀ (i : Instr) (u : Byte), decode i.variant (frameBytes (encode i u)) = .ok i ∧ i.wf i.variant = true

/-- 30_encoding.md R68, R69: a device's decoder answers an instruction for exactly the words of its own rows, and
rejects every other frame. -/
def Obligations.DecoderAcceptsExactlyTheTable : Prop :=
  ∀ (v : Variant) (f : Frame) (i : Instr),
    decode v (frameBytes f) = .ok i ↔ i.wf v = true ∧ frameWord f &&& tableMask = tableMatch i

/-- 30_encoding.md R67: the result from the response bytes, the formula and both equivalent forms. -/
def Obligations.ResultAssembledFromResponse : Prop :=
  ∀ rx : Frame,
    decodeResult rx = ((rx.b1.setWidth 16 <<< 8) ||| rx.b2.setWidth 16) &&& 0x03FF#16 ∧
    decodeResult rx = (rx.b1.extractLsb' 0 2 ++ rx.b2).setWidth 16 ∧
    (decodeResult rx).toNat = (rx.b1.toNat % 4) * 256 + rx.b2.toNat ∧
    (decodeResult rx).extractLsb' 10 6 = 0

/-- 41_channel_read_protocol.md R98: range, ignored bits, masking twice, and no response byte makes a read fail. -/
def Obligations.DecodeRangeAndTolerance : Prop :=
  (∀ rx : Frame, (decodeResult rx).toNat ≤ 1023 ∧ decodeResult rx &&& 0x03FF#16 = decodeResult rx) ∧
  (∀ rx rx' : Frame, rx.b1.extractLsb' 0 2 = rx'.b1.extractLsb' 0 2 → rx.b2 = rx'.b2 →
    decodeResult rx = decodeResult rx') ∧
  ∀ (i : Instr) (s : State) (rx : Frame) (sa : List SelAnswer) (ba : List BusAnswer),
    i.wf s.build.variant = true → s.ph = .idle → s.selAnswers = .ok :: .ok :: sa → s.busAnswers = .ok rx :: ba →
    ∃ t, exec i s = .next t ∧ t.responses = s.responses ++ [.ok (decodeResult rx)]

/-- 41_channel_read_protocol.md R102: the arithmetic of the block, each operation with its width, its range and its exact
result: the command byte (1 to 3), the joined result bytes (4 to 6), the mask and the result (7). -/
def Obligations.ArithmeticIsExact : Prop :=
  (∀ a : Address, (a.setWidth 8 : Byte).toNat = a.toNat ∧
    (sglBit ||| a.setWidth 8).toNat = 8 + a.toNat ∧ (sglBit ||| a.setWidth 8).extractLsb' 4 4 = 0 ∧
    commandByte a = (sglBit ||| a.setWidth 8) <<< cmdShift ∧
    (commandByte a).toNat = 16 * (sglBit ||| a.setWidth 8).toNat ∧
    0x80 ≤ (commandByte a).toNat ∧ (commandByte a).toNat ≤ 0xF0) ∧
  (∀ x y z : Byte,
    (responseWord ⟨x, 0, z⟩).toNat = z.toNat ∧ (responseWord ⟨x, 0, z⟩).extractLsb' 8 8 = 0 ∧
    (responseWord ⟨x, y, 0⟩).toNat = 256 * y.toNat ∧ (responseWord ⟨x, y, 0⟩).toNat ≤ 0xFF00 ∧
    (responseWord ⟨x, y, z⟩).toNat = 256 * y.toNat + z.toNat) ∧
  (∀ w : Container, (w &&& resultMask).toNat = w.toNat % 1024) ∧
  ∀ rx : Frame, decodeResult rx = responseWord rx &&& resultMask ∧
    (decodeResult rx).toNat = (256 * rx.b1.toNat + rx.b2.toNat) % 1024 ∧
    (decodeResult rx).toNat = 256 * (rx.b1.toNat % 4) + rx.b2.toNat

/-- A step runs the instruction that is presented to an idle block: exec of it, with the request taken. A request given
as a frame runs the instruction the device's decoder reads from it. That the host presents a list, and may name a command
by its frame, is the model's choice (log 5, log 8). -/
def Obligations.StepRunsThePresentedInstruction : Prop :=
  ∀ (s : State) (i : Instr) (rest : List HostRequest), s.ph = .idle →
    (s.requests = .read i :: rest → step s = exec i { s with requests := rest }) ∧
    ∀ f, s.requests = .frame f :: rest → decode s.build.variant (frameBytes f) = .ok i →
      step s = exec i { s with requests := rest }

/-- A frame that is none of the device's is refused with the reason the decoder gives (30_encoding.md R69). That a
command may be presented as a frame is the model's choice (log 8). -/
def Obligations.ForeignFrameIsRefused : Prop :=
  ∀ (s : State) (f : Frame) (why : NotAFrame) (rest : List HostRequest), s.ph = .idle →
    s.requests = .frame f :: rest → decode s.build.variant (frameBytes f) = .error why →
    step s = .refused (.notAFrame why)

/-- An instruction of the other device is refused: the model's form of what cannot be presented (30_encoding.md R68,
R70; log 14). -/
def Obligations.OtherDevicesInstructionIsRefused : Prop :=
  ∀ (i : Instr) (s : State), i.wf s.build.variant = false → exec i s = .refused .notOfThisDevice

/-- 41_channel_read_protocol.md R85: a command is accepted exactly in `IDLE`. A command presented while the block is busy
has no effect on state, gives no event and no response: the step is the one with nothing presented, and the command stays
the host's. That what the host presents is a list is the model's choice (log 5), and so is that an accepted read goes as
far as it is answered in one step (log 11). -/
def Obligations.CommandAcceptedOnlyWhenIdle : Prop :=
  (∀ (i : Instr) (s : State), i.wf s.build.variant = true →
    (s.ph = .idle → exec i s = advances 3 { s with chl := i.address, perr := none, ph := .assert }) ∧
    (s.ph ≠ .idle → exec i s = .next s)) ∧
  ∀ (s : State) (q : HostRequest) (rest : List HostRequest), s.ph ≠ .idle → s.requests = q :: rest → q ≠ .new →
    step s = Result.onNext (fun t => { t with requests := s.requests }) (step { s with requests := [] })

/-- 41_channel_read_protocol.md R86: acceptance, seen while no answer to `SelActive()` has come. -/
def Obligations.AcceptanceLatchesTheOperand : Prop :=
  ∀ (i : Instr) (s : State), i.wf s.build.variant = true → s.ph = .idle → s.selAnswers = [] →
    exec i s = .next { s with chl := i.address, perr := none, ph := .assert }

/-- 41_channel_read_protocol.md R88: the answer to `SelActive()`. -/
def Obligations.SelActiveAnswered : Prop :=
  ∀ (s : State) (sa : List SelAnswer), NoResetPresented s → s.ph = .assert →
    (s.selAnswers = .ok :: sa → ∃ u d, step s = .next { s with
      ph := .xfer, sel := .active, tb := ⟨0x01, (0b1000#8 ||| s.chl.setWidth 8) <<< 4, u⟩,
      trace := s.trace ++ [.selActive .ok], selAnswers := sa, draws := d }) ∧
    ∀ p, s.selAnswers = .fail p :: sa →
      (s.build.errTyping = .typed → ∃ l d, step s = .next { s with
        ph := .idle, sel := l, trace := s.trace ++ [.selActive (.fail p)],
        responses := s.responses ++ [.err (.pin p)], selAnswers := sa, draws := d }) ∧
      (s.build.errTyping = .bare → step s = .refused .bareAssertFailure)

/-- 41_channel_read_protocol.md R92, R93: the answer to `Xfer`, and both policies after a failed transfer. -/
def Obligations.XferAnswered : Prop :=
  ∀ (s : State) (ba : List BusAnswer), NoResetPresented s → s.ph = .xfer →
    (s.Wf → s.sel = .active ∧ s.perr = none) ∧
    (∀ rx, s.busAnswers = .ok rx :: ba → step s = .next { s with
      ph := .deassert, tb := rx, trace := s.trace ++ [.xfer s.tb (.ok rx)], busAnswers := ba }) ∧
    ∀ c, s.busAnswers = .fail c :: ba →
      (s.build.xfailDeassert = false → ∃ f d, step s = .next { s with
        ph := .idle, tb := f, trace := s.trace ++ [.xfer s.tb (.fail c)],
        responses := s.responses ++ [.err (.comm c)], busAnswers := ba, draws := d }) ∧
      (s.build.xfailDeassert = true → ∃ f d, step s = .next { s with
        ph := .deassert, tb := f, perr := some c, trace := s.trace ++ [.xfer s.tb (.fail c)],
        busAnswers := ba, draws := d })

/-- 41_channel_read_protocol.md R95, R96: the answer to `SelInactive()`, with the response of each row. -/
def Obligations.SelInactiveAnswered : Prop :=
  ∀ (s : State) (sa : List SelAnswer), NoResetPresented s → s.ph = .deassert →
    (s.selAnswers = .ok :: sa → ∃ r, step s = .next { s with
        ph := .idle, sel := .inactive, trace := s.trace ++ [.selInactive .ok],
        responses := s.responses ++ [r], selAnswers := sa } ∧
      (s.perr = none → r = .ok (((s.tb.b1.setWidth 16 <<< 8) ||| s.tb.b2.setWidth 16) &&& 0x03FF)) ∧
      ∀ c, s.perr = some c → r = .err (.comm c)) ∧
    ∀ p, s.selAnswers = .fail p :: sa → ∃ r l d, step s = .next { s with
        ph := .idle, sel := l, trace := s.trace ++ [.selInactive (.fail p)],
        responses := s.responses ++ [r], selAnswers := sa, draws := d } ∧
      (s.perr = none → s.build.errTyping = .typed → r = .err (.pin p)) ∧
      (s.perr = none → s.build.errTyping = .bare →
        r = .ok (((s.tb.b1.setWidth 16 <<< 8) ||| s.tb.b2.setWidth 16) &&& 0x03FF)) ∧
      ∀ c, s.perr = some c →
        (s.build.errTyping = .bare → r = .err (.comm c)) ∧
        (s.build.errTyping = .typed →
          (s.build.doubleFault = .first → r = .err (.comm c)) ∧
          (s.build.doubleFault = .second → r = .err (.pin p)) ∧
          (s.build.doubleFault = .either → r = .err (.comm c) ∨ r = .err (.pin p)))

/-- 41_channel_read_protocol.md R106: an unanswered call enables no step, in each waiting phase. That the model
says so by a step that changes nothing is its choice (log 11). -/
def Obligations.UnansweredCallWaits : Prop :=
  ∀ s : State, NoResetPresented s →
    (s.ph = .assert → s.selAnswers = [] → step s = .next s) ∧
    (s.ph = .xfer → s.busAnswers = [] → step s = .next s) ∧
    (s.ph = .deassert → s.selAnswers = [] → step s = .next s)

/-- 70_reset_and_hazards.md R163: an idle block with nothing presented waits. That the wait is a step that
changes nothing is the model's choice (log 5, log 11). -/
def Obligations.IdleBlockWaits : Prop :=
  ∀ s : State, s.ph = .idle → s.requests = [] → step s = .next s

/-- 42_read_channel8.md R110 to R117: each Channel-8 instruction, all three calls answered `Ok`, completes with its own
frame and the decoded value, and leaves everything else as it was. -/
def Obligations.Channel8ReadCompletes : Prop :=
  ∀ (s : State) (rx : Frame) (sa : List SelAnswer) (ba : List BusAnswer),
    s.build.variant = .channel8 → s.ph = .idle → s.selAnswers = .ok :: .ok :: sa → s.busAnswers = .ok rx :: ba →
    (∃ u d, exec .c8ch0 s = .next (afterGoodRead s 0 ⟨0x01, 0x80, u⟩ rx sa ba d)) ∧
    (∃ u d, exec .c8ch1 s = .next (afterGoodRead s 1 ⟨0x01, 0x90, u⟩ rx sa ba d)) ∧
    (∃ u d, exec .c8ch2 s = .next (afterGoodRead s 2 ⟨0x01, 0xA0, u⟩ rx sa ba d)) ∧
    (∃ u d, exec .c8ch3 s = .next (afterGoodRead s 3 ⟨0x01, 0xB0, u⟩ rx sa ba d)) ∧
    (∃ u d, exec .c8ch4 s = .next (afterGoodRead s 4 ⟨0x01, 0xC0, u⟩ rx sa ba d)) ∧
    (∃ u d, exec .c8ch5 s = .next (afterGoodRead s 5 ⟨0x01, 0xD0, u⟩ rx sa ba d)) ∧
    (∃ u d, exec .c8ch6 s = .next (afterGoodRead s 6 ⟨0x01, 0xE0, u⟩ rx sa ba d)) ∧
    (∃ u d, exec .c8ch7 s = .next (afterGoodRead s 7 ⟨0x01, 0xF0, u⟩ rx sa ba d))

/-- 43_read_channel4.md R118 to R121: the same for each Channel-4 instruction. -/
def Obligations.Channel4ReadCompletes : Prop :=
  ∀ (s : State) (rx : Frame) (sa : List SelAnswer) (ba : List BusAnswer),
    s.build.variant = .channel4 → s.ph = .idle → s.selAnswers = .ok :: .ok :: sa → s.busAnswers = .ok rx :: ba →
    (∃ u d, exec .c4ch0 s = .next (afterGoodRead s 0 ⟨0x01, 0x80, u⟩ rx sa ba d)) ∧
    (∃ u d, exec .c4ch1 s = .next (afterGoodRead s 1 ⟨0x01, 0x90, u⟩ rx sa ba d)) ∧
    (∃ u d, exec .c4ch2 s = .next (afterGoodRead s 2 ⟨0x01, 0xA0, u⟩ rx sa ba d)) ∧
    (∃ u d, exec .c4ch3 s = .next (afterGoodRead s 3 ⟨0x01, 0xB0, u⟩ rx sa ba d))

/-- Trace T2 of 41_channel_read_protocol.md R101: a failed assert ends the read with `PIN`; no frame is built and no
other call is made. -/
def Obligations.FailedAssertEndsTheRead : Prop :=
  ∀ (i : Instr) (s : State) (p : PinErr) (sa : List SelAnswer),
    i.wf s.build.variant = true → s.ph = .idle → s.selAnswers = .fail p :: sa →
    s.build.errTyping = .typed →
    ∃ l d, exec i s = .next
      (afterFailedRead s i.address [.selActive (.fail p)] (.pin p) s.tb none l sa s.busAnswers d)

/-- 41_channel_read_protocol.md R107, R156 item 1: a `BARE` block has no meaning for a failed assert. -/
def Obligations.BareFailedAssertIsRefused : Prop :=
  ∀ (i : Instr) (s : State) (p : PinErr) (sa : List SelAnswer),
    i.wf s.build.variant = true → s.ph = .idle → s.selAnswers = .fail p :: sa →
    s.build.errTyping = .bare → exec i s = .refused .bareAssertFailure

/-- Trace T3: with `XFAIL_DEASSERT = false` a failed transfer ends the read with `COMM` at once; the line stays
active. -/
def Obligations.FailedTransferAbortsAtOnce : Prop :=
  ∀ (i : Instr) (s : State) (c : BusErr) (sa : List SelAnswer) (ba : List BusAnswer),
    i.wf s.build.variant = true → s.ph = .idle → s.selAnswers = .ok :: sa → s.busAnswers = .fail c :: ba →
    s.build.xfailDeassert = false →
    ∃ u f d, exec i s = .next (afterFailedRead s i.address
      [.selActive .ok, .xfer (outFrame i.address u) (.fail c)] (.comm c) f none .active sa ba d)

/-- Trace T4: with `XFAIL_DEASSERT = true` the line is released after a failed transfer, and then `COMM` is
reported. -/
def Obligations.FailedTransferReleasesTheLine : Prop :=
  ∀ (i : Instr) (s : State) (c : BusErr) (sa : List SelAnswer) (ba : List BusAnswer),
    i.wf s.build.variant = true → s.ph = .idle → s.selAnswers = .ok :: .ok :: sa → s.busAnswers = .fail c :: ba →
    s.build.xfailDeassert = true →
    ∃ u f d, exec i s = .next (afterFailedRead s i.address
      [.selActive .ok, .xfer (outFrame i.address u) (.fail c), .selInactive .ok] (.comm c) f (some c) .inactive
      sa ba d)

/-- Trace T5: a failed transfer and a failed deassert give one error, as `ERR_TYPING` and `DOUBLE_FAULT` say. -/
def Obligations.DoubleFailureReportsOneError : Prop :=
  ∀ (i : Instr) (s : State) (c : BusErr) (p : PinErr) (sa : List SelAnswer) (ba : List BusAnswer),
    i.wf s.build.variant = true → s.ph = .idle → s.selAnswers = .ok :: .fail p :: sa →
    s.busAnswers = .fail c :: ba → s.build.xfailDeassert = true →
    ∃ u f e l d, exec i s = .next (afterFailedRead s i.address
        [.selActive .ok, .xfer (outFrame i.address u) (.fail c), .selInactive (.fail p)] e f (some c) l sa ba d) ∧
      IsDoubleFaultResponse s.build c p (.err e)

/-- Trace T6: a failed deassert after a good transfer gives `PIN` under `TYPED`, and the value under `BARE`. -/
def Obligations.FailedDeassertAfterGoodTransfer : Prop :=
  ∀ (i : Instr) (s : State) (rx : Frame) (p : PinErr) (sa : List SelAnswer) (ba : List BusAnswer),
    i.wf s.build.variant = true → s.ph = .idle → s.selAnswers = .ok :: .fail p :: sa →
    s.busAnswers = .ok rx :: ba →
    (s.build.errTyping = .typed → ∃ u l d, exec i s = .next (afterFailedRead s i.address
      [.selActive .ok, .xfer (outFrame i.address u) (.ok rx), .selInactive (.fail p)] (.pin p) rx none l sa ba d)) ∧
    (s.build.errTyping = .bare → ∃ u l d, exec i s = .next { s with
      ph := .idle, chl := i.address, tb := rx, perr := none, sel := l,
      trace := s.trace ++ [.selActive .ok, .xfer (outFrame i.address u) (.ok rx), .selInactive (.fail p)],
      responses := s.responses ++ [.ok (decodeResult rx)], selAnswers := sa, busAnswers := ba, draws := d })

/-- 41_channel_read_protocol.md R101: a read that has ended has one of the listed traces, with that row's response and
level of the line, and no other. -/
def Obligations.EndedReadHasAListedTrace : Prop :=
  ∀ (i : Instr) (s t : State), s.ph = .idle → exec i s = .next t → t.ph = .idle →
    ∃ es r, t.trace = s.trace ++ es ∧ t.responses = s.responses ++ [r] ∧
      IsRead s.build i.address es r t.sel

/-- 41_channel_read_protocol.md R100: the phase machine's read equals the blocking reference function. -/
def Obligations.ReadRefinesTheReference : Prop :=
  ∀ (i : Instr) (s : State) (x z : SelAnswer) (y : BusAnswer) (sa : List SelAnswer) (ba : List BusAnswer),
    i.wf s.build.variant = true → s.ph = .idle → s.selAnswers = x :: z :: sa → s.busAnswers = y :: ba →
    (∃ t u w r, exec i s = .next t ∧ referenceRead s.build i.address u w x y z = some r ∧ t.ph = .idle ∧
      t.trace = s.trace ++ r.trace ∧ t.responses = s.responses ++ [r.response] ∧
      ∀ l, r.sel = some l → t.sel = l) ∨
    (exec i s = .refused .bareAssertFailure ∧ ∀ u w, referenceRead s.build i.address u w x y z = none)

/-- 10_state.md R20: the trace and the response of a read depend on the build, the operand and the answers during that
read, and on nothing an earlier read left and no answer of a later read. The free values are the model's own input to
the read, so they are taken to agree (log 2). -/
def Obligations.ReadIsStateless : Prop :=
  ∀ (i : Instr) (s t : State), SameInputs s t →
    (∃ s' t' es rs, exec i s = .next s' ∧ exec i t = .next t' ∧
      s'.trace = s.trace ++ es ∧ t'.trace = t.trace ++ es ∧
      s'.responses = s.responses ++ rs ∧ t'.responses = t.responses ++ rs ∧
      s'.ph = t'.ph ∧ s'.chl = t'.chl ∧ s'.perr = t'.perr ∧
      (∀ f a, .xfer f a ∈ es → s'.tb = t'.tb) ∧ (es ≠ [] → s'.sel = t'.sel)) ∨
    ∃ r, exec i s = .refused r ∧ exec i t = .refused r

/-- The frame of all twelve instructions: what no read changes, and that answers, trace and responses are only taken
from or added to at one end. -/
def Obligations.ReadFrame : Prop :=
  ∀ (i : Instr) (s t : State), exec i s = .next t →
    t.build = s.build ∧ t.mode = s.mode ∧ t.requests = s.requests ∧
    t.selAnswers <:+ s.selAnswers ∧ t.busAnswers <:+ s.busAnswers ∧
    s.trace <+: t.trace ∧ s.responses <+: t.responses ∧
    (s.ph = .idle → t.chl = i.address) ∧ (s.ph ≠ .idle → t = s) ∧
    (.selActive .ok ∉ t.trace.drop s.trace.length → t.tb = s.tb) ∧
    (t.trace = s.trace → t.sel = s.sel)

/-- 00_scope.md R2, 10_state.md R29: no step changes the variant or a policy parameter. -/
def Obligations.BuildNeverChanges : Prop :=
  ∀ s t : State, step s = .next t → t.build = s.build

/-- 20_memory.md R50: short of a reset, no step takes back an event or a response. -/
def Obligations.TraceOnlyGrows : Prop :=
  ∀ s t : State, NoResetPresented s → step s = .next t → s.trace <+: t.trace ∧ s.responses <+: t.responses

/-- 20_memory.md R46: at most one of each call in a read, exactly one transfer once the line is asserted and the read
has ended, and none after a failed assert. -/
def Obligations.AtMostOneOfEachCall : Prop :=
  ∀ (i : Instr) (s t : State), s.ph = .idle → exec i s = .next t →
    ∃ es, t.trace = s.trace ++ es ∧
      selActiveCount es ≤ 1 ∧ xferCount es ≤ 1 ∧ selInactiveCount es ≤ 1 ∧
      (t.ph = .idle → .selActive .ok ∈ es → xferCount es = 1) ∧
      ∀ p, .selActive (.fail p) ∈ es → xferCount es = 0 ∧ selInactiveCount es = 0

/-- 41_channel_read_protocol.md R99: a read that answers a value made the three calls, once each and in order. -/
def Obligations.SuccessfulReadMakesThreeCalls : Prop :=
  ∀ (i : Instr) (s t : State) (v : Container), s.ph = .idle → exec i s = .next t →
    t.responses = s.responses ++ [.ok v] →
    ∃ tx rx z, t.trace = s.trace ++ [.selActive .ok, .xfer tx (.ok rx), .selInactive z] ∧
      (s.build.errTyping = .typed → z = .ok)

/-- 60_exceptions.md R131, R132: `COMM` reports a failed transfer of the same read with its own value, and `PIN` a
failed select-line call with its own value. -/
def Obligations.ErrorsNameTheirCause : Prop :=
  ∀ (i : Instr) (s t : State), s.ph = .idle → exec i s = .next t →
    (∀ c, t.responses = s.responses ++ [.err (.comm c)] →
      ∃ es tx, t.trace = s.trace ++ es ∧ .xfer tx (.fail c) ∈ es) ∧
    (∀ p, t.responses = s.responses ++ [.err (.pin p)] →
      s.build.errTyping = .typed ∧
      ∃ es, t.trace = s.trace ++ es ∧ (.selActive (.fail p) ∈ es ∨ .selInactive (.fail p) ∈ es))

/-- 41_channel_read_protocol.md R106, decision D24: a read whose calls are all answered ends, with one response. -/
def Obligations.AnsweredReadEnds : Prop :=
  ∀ (i : Instr) (s : State), i.wf s.build.variant = true → s.ph = .idle →
    2 ≤ s.selAnswers.length → 1 ≤ s.busAnswers.length →
    (∃ t r, exec i s = .next t ∧ t.ph = .idle ∧ t.responses = s.responses ++ [r]) ∨
    (s.build.errTyping = .bare ∧ exec i s = .refused .bareAssertFailure)

/-- 40_construction.md R80, R83; 70_reset_and_hazards.md R160: `NEW` in an idle block. That the line, and
the answers that have arrived, stay as they are in a block that has run is the model's reading (log 10). -/
def Obligations.NewResetsAnIdleBlock : Prop :=
  ∀ (s : State) (rest : List HostRequest), s.ph = .idle → s.requests = .new :: rest →
    ∃ a f d, onDevice s.build.variant a = true ∧
      step s = .next { s with
        requests := rest, chl := a, tb := f, perr := none, trace := [], responses := [], draws := d }

/-- 70_reset_and_hazards.md R161: a reset presented in any other phase is refused. -/
def Obligations.NewDuringAReadIsRefused : Prop :=
  ∀ (s : State) (rest : List HostRequest), s.ph ≠ .idle → s.requests = .new :: rest →
    step s = .refused .resetDuringRead

/-- 10_state.md R26: the transitions of `PH`. A transition of the sequencer follows one listed edge with its own
event, or changes nothing, and an accepted command starts at `ASSERT`. -/
def Obligations.PhaseMovesOnlyAsListed : Prop :=
  (∀ s t : State, advance s = .next t →
    t = s ∨ ∃ e, t.trace = s.trace ++ [e] ∧ PhaseEdge s.build s.ph e t.ph) ∧
  ∀ (i : Instr) (s t : State), exec i s = .next t →
    t = s ∨ (s.ph = .idle ∧ ∃ s', s'.ph = .assert ∧ s'.trace = s.trace ∧ advances 3 s' = .next t)

/-- 30_encoding.md R66: `rx[0]` and `rx[1][7:2]` never reach the response. -/
def Obligations.StrayResponseBitsAreDiscarded : Prop :=
  ∀ (i : Instr) (s : State) (x z : SelAnswer) (rx rx' : Frame) (sa : List SelAnswer) (ba : List BusAnswer) (t : State),
    i.wf s.build.variant = true → s.ph = .idle → s.selAnswers = x :: z :: sa →
    rx.b1.extractLsb' 0 2 = rx'.b1.extractLsb' 0 2 → rx.b2 = rx'.b2 →
    exec i { s with busAnswers := .ok rx :: ba } = .next t →
    ∃ t', exec i { s with busAnswers := .ok rx' :: ba } = .next t' ∧ t'.responses = t.responses ∧ t'.ph = t.ph

/-- 00_scope.md R11, decision D26: the error values are of any two types, and they are passed through unchanged and
looked at by nothing: replacing them by a function into any other types before a step is replacing them after it. The
step of the host's machine is that step at its own two types (log 3). -/
def Obligations.ErrorValuesPassThrough : Prop :=
  (∀ (B P B' P' : Type) (f : B → B') (g : P → P') (s : State B P),
    stepOf (s.mapErrors f g) = Result.onNext (State.mapErrors f g) (stepOf s)) ∧
  ∀ s : State, step s = stepOf s

/-- 10_state.md R21, 41_channel_read_protocol.md R106: a read that is accepted before any answer has come, and whose
answers then arrive while it waits, some or none of them before each step, has the outcome of the read whose answers are
all there. How many transitions make a step, and what the host presents, are the model's choice (log 11, log 5). -/
def Obligations.LateAnswersGiveTheSameRead : Prop :=
  ∀ (i : Instr) (s : State) (ms : List Arrivals), i.wf s.build.variant = true → s.ph = .idle →
    ms.flatMap (·.sel) = s.selAnswers → ms.flatMap (·.bus) = s.busAnswers →
    ∃ w, exec i { s with selAnswers := [], busAnswers := [], requests := [] } = .next w ∧
      runWithArrivals (ms ++ List.replicate 3 .nothing) w =
        Result.onNext (fun t => { t with requests := [] }) (exec i s)

/-- Every step keeps the transient registers well formed (10_state.md R22). -/
def Obligations.StepKeepsWellFormed : Prop :=
  ∀ s t : State, s.Wf → step s = .next t → t.Wf

/-- Every step keeps the history: complete reads of the listed traces, one response each, and then the events of the
read in progress (20_memory.md R49, R50; 30_encoding.md R75). -/
def Obligations.StepKeepsHistory : Prop :=
  ∀ s t : State, s.Wf → History s → step s = .next t → History t
end

