-- ==== Sys2Proof/Laws/Decode.lean ====
section
/-! SUPPORT. What the frame functions depend on: bytes they ignore, and the two views of a frame. -/

namespace Sys2Proof

/-- The decoder does not look at `TB[2]` (30_encoding.md R64). -/
theorem decodeFrame_ignores_b2 (v : Variant) (x y u w : Byte) :
    decodeFrame v ⟨x, y, u⟩ = decodeFrame v ⟨x, y, w⟩ := rfl

@[simp] theorem decode_frameBytes (v : Variant) (f : Frame) : decode v (frameBytes f) = decodeFrame v f := rfl

@[simp] theorem outFrame_b0 (a : Address) (u : Byte) : (outFrame a u).b0 = startByte := rfl

@[simp] theorem outFrame_b1 (a : Address) (u : Byte) : (outFrame a u).b1 = commandByte a := rfl

@[simp] theorem outFrame_b2 (a : Address) (u : Byte) : (outFrame a u).b2 = u := rfl

/-- The command byte as a number (30_encoding.md R65). -/
theorem commandByte_toNat (a : Address) : (commandByte a).toNat = 0x80 + 16 * a.toNat := by
  revert a
  decide

/-- The address can be read back from the command byte. -/
theorem commandByte_address (a : Address) : (commandByte a).extractLsb' 4 3 = a := by
  revert a
  decide

/-- An instruction's address is one of its own device. -/
theorem Instr.address_onDevice (i : Instr) : onDevice i.variant i.address = true := by
  cases i <;> decide

/-- The device's instruction at an address is the one that stands for it. -/
theorem instrAt_iff (v : Variant) (a : Address) (i : Instr) :
    instrAt v a = .ok i ↔ i.variant = v ∧ i.address = a := by
  revert a
  cases v <;> cases i <;> decide

namespace Machine

/-- The decode does not look at `rx[0]` (30_encoding.md R66). -/
theorem decodeResult_ignores_b0 (x x' y z : Byte) : decodeResult ⟨x, y, z⟩ = decodeResult ⟨x', y, z⟩ := rfl

/-- A byte cut to the address width is an address of the device. -/
theorem addressOf_onDevice (v : Variant) (x : Byte) : onDevice v (addressOf v x) = true := by
  revert x
  cases v <;> decide

end Machine

end Sys2Proof
end

