-- ==== Sys2Proof/Laws/State.lean ====
section
/-! SUPPORT. What each write of the state leaves in each field: one lemma per field per write. -/

namespace Sys2Proof.Machine

variable {B P : Type}

@[simp] theorem State.setPh_build (p : Phase) (s : State B P) : (s.setPh p).build = s.build := rfl
@[simp] theorem State.setPh_ph (p : Phase) (s : State B P) : (s.setPh p).ph = p := rfl
@[simp] theorem State.setPh_chl (p : Phase) (s : State B P) : (s.setPh p).chl = s.chl := rfl
@[simp] theorem State.setPh_tb (p : Phase) (s : State B P) : (s.setPh p).tb = s.tb := rfl
@[simp] theorem State.setPh_perr (p : Phase) (s : State B P) : (s.setPh p).perr = s.perr := rfl
@[simp] theorem State.setPh_mode (p : Phase) (s : State B P) : (s.setPh p).mode = s.mode := rfl
@[simp] theorem State.setPh_sel (p : Phase) (s : State B P) : (s.setPh p).sel = s.sel := rfl
@[simp] theorem State.setPh_trace (p : Phase) (s : State B P) : (s.setPh p).trace = s.trace := rfl
@[simp] theorem State.setPh_responses (p : Phase) (s : State B P) : (s.setPh p).responses = s.responses := rfl
@[simp] theorem State.setPh_requests (p : Phase) (s : State B P) : (s.setPh p).requests = s.requests := rfl
@[simp] theorem State.setPh_selAnswers (p : Phase) (s : State B P) : (s.setPh p).selAnswers = s.selAnswers := rfl
@[simp] theorem State.setPh_busAnswers (p : Phase) (s : State B P) : (s.setPh p).busAnswers = s.busAnswers := rfl
@[simp] theorem State.setPh_draws (p : Phase) (s : State B P) : (s.setPh p).draws = s.draws := rfl

@[simp] theorem State.setChl_build (a : Address) (s : State B P) : (s.setChl a).build = s.build := rfl
@[simp] theorem State.setChl_ph (a : Address) (s : State B P) : (s.setChl a).ph = s.ph := rfl
@[simp] theorem State.setChl_chl (a : Address) (s : State B P) : (s.setChl a).chl = a := rfl
@[simp] theorem State.setChl_tb (a : Address) (s : State B P) : (s.setChl a).tb = s.tb := rfl
@[simp] theorem State.setChl_perr (a : Address) (s : State B P) : (s.setChl a).perr = s.perr := rfl
@[simp] theorem State.setChl_mode (a : Address) (s : State B P) : (s.setChl a).mode = s.mode := rfl
@[simp] theorem State.setChl_sel (a : Address) (s : State B P) : (s.setChl a).sel = s.sel := rfl
@[simp] theorem State.setChl_trace (a : Address) (s : State B P) : (s.setChl a).trace = s.trace := rfl
@[simp] theorem State.setChl_responses (a : Address) (s : State B P) : (s.setChl a).responses = s.responses := rfl
@[simp] theorem State.setChl_requests (a : Address) (s : State B P) : (s.setChl a).requests = s.requests := rfl
@[simp] theorem State.setChl_selAnswers (a : Address) (s : State B P) : (s.setChl a).selAnswers = s.selAnswers := rfl
@[simp] theorem State.setChl_busAnswers (a : Address) (s : State B P) : (s.setChl a).busAnswers = s.busAnswers := rfl
@[simp] theorem State.setChl_draws (a : Address) (s : State B P) : (s.setChl a).draws = s.draws := rfl

@[simp] theorem State.setTb_build (f : Frame) (s : State B P) : (s.setTb f).build = s.build := rfl
@[simp] theorem State.setTb_ph (f : Frame) (s : State B P) : (s.setTb f).ph = s.ph := rfl
@[simp] theorem State.setTb_chl (f : Frame) (s : State B P) : (s.setTb f).chl = s.chl := rfl
@[simp] theorem State.setTb_tb (f : Frame) (s : State B P) : (s.setTb f).tb = f := rfl
@[simp] theorem State.setTb_perr (f : Frame) (s : State B P) : (s.setTb f).perr = s.perr := rfl
@[simp] theorem State.setTb_mode (f : Frame) (s : State B P) : (s.setTb f).mode = s.mode := rfl
@[simp] theorem State.setTb_sel (f : Frame) (s : State B P) : (s.setTb f).sel = s.sel := rfl
@[simp] theorem State.setTb_trace (f : Frame) (s : State B P) : (s.setTb f).trace = s.trace := rfl
@[simp] theorem State.setTb_responses (f : Frame) (s : State B P) : (s.setTb f).responses = s.responses := rfl
@[simp] theorem State.setTb_requests (f : Frame) (s : State B P) : (s.setTb f).requests = s.requests := rfl
@[simp] theorem State.setTb_selAnswers (f : Frame) (s : State B P) : (s.setTb f).selAnswers = s.selAnswers := rfl
@[simp] theorem State.setTb_busAnswers (f : Frame) (s : State B P) : (s.setTb f).busAnswers = s.busAnswers := rfl
@[simp] theorem State.setTb_draws (f : Frame) (s : State B P) : (s.setTb f).draws = s.draws := rfl

@[simp] theorem State.setPerr_build (e : Option B) (s : State B P) : (s.setPerr e).build = s.build := rfl
@[simp] theorem State.setPerr_ph (e : Option B) (s : State B P) : (s.setPerr e).ph = s.ph := rfl
@[simp] theorem State.setPerr_chl (e : Option B) (s : State B P) : (s.setPerr e).chl = s.chl := rfl
@[simp] theorem State.setPerr_tb (e : Option B) (s : State B P) : (s.setPerr e).tb = s.tb := rfl
@[simp] theorem State.setPerr_perr (e : Option B) (s : State B P) : (s.setPerr e).perr = e := rfl
@[simp] theorem State.setPerr_mode (e : Option B) (s : State B P) : (s.setPerr e).mode = s.mode := rfl
@[simp] theorem State.setPerr_sel (e : Option B) (s : State B P) : (s.setPerr e).sel = s.sel := rfl
@[simp] theorem State.setPerr_trace (e : Option B) (s : State B P) : (s.setPerr e).trace = s.trace := rfl
@[simp] theorem State.setPerr_responses (e : Option B) (s : State B P) : (s.setPerr e).responses = s.responses := rfl
@[simp] theorem State.setPerr_requests (e : Option B) (s : State B P) : (s.setPerr e).requests = s.requests := rfl
@[simp] theorem State.setPerr_selAnswers (e : Option B) (s : State B P) : (s.setPerr e).selAnswers = s.selAnswers := rfl
@[simp] theorem State.setPerr_busAnswers (e : Option B) (s : State B P) : (s.setPerr e).busAnswers = s.busAnswers := rfl
@[simp] theorem State.setPerr_draws (e : Option B) (s : State B P) : (s.setPerr e).draws = s.draws := rfl

@[simp] theorem State.setSel_build (l : Level) (s : State B P) : (s.setSel l).build = s.build := rfl
@[simp] theorem State.setSel_ph (l : Level) (s : State B P) : (s.setSel l).ph = s.ph := rfl
@[simp] theorem State.setSel_chl (l : Level) (s : State B P) : (s.setSel l).chl = s.chl := rfl
@[simp] theorem State.setSel_tb (l : Level) (s : State B P) : (s.setSel l).tb = s.tb := rfl
@[simp] theorem State.setSel_perr (l : Level) (s : State B P) : (s.setSel l).perr = s.perr := rfl
@[simp] theorem State.setSel_mode (l : Level) (s : State B P) : (s.setSel l).mode = s.mode := rfl
@[simp] theorem State.setSel_sel (l : Level) (s : State B P) : (s.setSel l).sel = l := rfl
@[simp] theorem State.setSel_trace (l : Level) (s : State B P) : (s.setSel l).trace = s.trace := rfl
@[simp] theorem State.setSel_responses (l : Level) (s : State B P) : (s.setSel l).responses = s.responses := rfl
@[simp] theorem State.setSel_requests (l : Level) (s : State B P) : (s.setSel l).requests = s.requests := rfl
@[simp] theorem State.setSel_selAnswers (l : Level) (s : State B P) : (s.setSel l).selAnswers = s.selAnswers := rfl
@[simp] theorem State.setSel_busAnswers (l : Level) (s : State B P) : (s.setSel l).busAnswers = s.busAnswers := rfl
@[simp] theorem State.setSel_draws (l : Level) (s : State B P) : (s.setSel l).draws = s.draws := rfl

@[simp] theorem State.emit_build (e : Event B P) (s : State B P) : (s.emit e).build = s.build := rfl
@[simp] theorem State.emit_ph (e : Event B P) (s : State B P) : (s.emit e).ph = s.ph := rfl
@[simp] theorem State.emit_chl (e : Event B P) (s : State B P) : (s.emit e).chl = s.chl := rfl
@[simp] theorem State.emit_tb (e : Event B P) (s : State B P) : (s.emit e).tb = s.tb := rfl
@[simp] theorem State.emit_perr (e : Event B P) (s : State B P) : (s.emit e).perr = s.perr := rfl
@[simp] theorem State.emit_mode (e : Event B P) (s : State B P) : (s.emit e).mode = s.mode := rfl
@[simp] theorem State.emit_sel (e : Event B P) (s : State B P) : (s.emit e).sel = s.sel := rfl
@[simp] theorem State.emit_trace (e : Event B P) (s : State B P) : (s.emit e).trace = s.trace ++ [e] := rfl
@[simp] theorem State.emit_responses (e : Event B P) (s : State B P) : (s.emit e).responses = s.responses := rfl
@[simp] theorem State.emit_requests (e : Event B P) (s : State B P) : (s.emit e).requests = s.requests := rfl
@[simp] theorem State.emit_selAnswers (e : Event B P) (s : State B P) : (s.emit e).selAnswers = s.selAnswers := rfl
@[simp] theorem State.emit_busAnswers (e : Event B P) (s : State B P) : (s.emit e).busAnswers = s.busAnswers := rfl
@[simp] theorem State.emit_draws (e : Event B P) (s : State B P) : (s.emit e).draws = s.draws := rfl

@[simp] theorem State.respond_build (r : Response B P) (s : State B P) : (s.respond r).build = s.build := rfl
@[simp] theorem State.respond_ph (r : Response B P) (s : State B P) : (s.respond r).ph = s.ph := rfl
@[simp] theorem State.respond_chl (r : Response B P) (s : State B P) : (s.respond r).chl = s.chl := rfl
@[simp] theorem State.respond_tb (r : Response B P) (s : State B P) : (s.respond r).tb = s.tb := rfl
@[simp] theorem State.respond_perr (r : Response B P) (s : State B P) : (s.respond r).perr = s.perr := rfl
@[simp] theorem State.respond_mode (r : Response B P) (s : State B P) : (s.respond r).mode = s.mode := rfl
@[simp] theorem State.respond_sel (r : Response B P) (s : State B P) : (s.respond r).sel = s.sel := rfl
@[simp] theorem State.respond_trace (r : Response B P) (s : State B P) : (s.respond r).trace = s.trace := rfl
@[simp] theorem State.respond_responses (r : Response B P) (s : State B P) : (s.respond r).responses = s.responses ++ [r] := rfl
@[simp] theorem State.respond_requests (r : Response B P) (s : State B P) : (s.respond r).requests = s.requests := rfl
@[simp] theorem State.respond_selAnswers (r : Response B P) (s : State B P) : (s.respond r).selAnswers = s.selAnswers := rfl
@[simp] theorem State.respond_busAnswers (r : Response B P) (s : State B P) : (s.respond r).busAnswers = s.busAnswers := rfl
@[simp] theorem State.respond_draws (r : Response B P) (s : State B P) : (s.respond r).draws = s.draws := rfl

@[simp] theorem State.drawn_build (n : Nat) (s : State B P) : (s.drawn n).build = s.build := rfl
@[simp] theorem State.drawn_ph (n : Nat) (s : State B P) : (s.drawn n).ph = s.ph := rfl
@[simp] theorem State.drawn_chl (n : Nat) (s : State B P) : (s.drawn n).chl = s.chl := rfl
@[simp] theorem State.drawn_tb (n : Nat) (s : State B P) : (s.drawn n).tb = s.tb := rfl
@[simp] theorem State.drawn_perr (n : Nat) (s : State B P) : (s.drawn n).perr = s.perr := rfl
@[simp] theorem State.drawn_mode (n : Nat) (s : State B P) : (s.drawn n).mode = s.mode := rfl
@[simp] theorem State.drawn_sel (n : Nat) (s : State B P) : (s.drawn n).sel = s.sel := rfl
@[simp] theorem State.drawn_trace (n : Nat) (s : State B P) : (s.drawn n).trace = s.trace := rfl
@[simp] theorem State.drawn_responses (n : Nat) (s : State B P) : (s.drawn n).responses = s.responses := rfl
@[simp] theorem State.drawn_requests (n : Nat) (s : State B P) : (s.drawn n).requests = s.requests := rfl
@[simp] theorem State.drawn_selAnswers (n : Nat) (s : State B P) : (s.drawn n).selAnswers = s.selAnswers := rfl
@[simp] theorem State.drawn_busAnswers (n : Nat) (s : State B P) : (s.drawn n).busAnswers = s.busAnswers := rfl
@[simp] theorem State.drawn_draws (n : Nat) (s : State B P) : (s.drawn n).draws = s.draws + n := rfl

@[simp] theorem State.setRequests_build (rs : List HostRequest) (s : State B P) : (s.setRequests rs).build = s.build := rfl
@[simp] theorem State.setRequests_ph (rs : List HostRequest) (s : State B P) : (s.setRequests rs).ph = s.ph := rfl
@[simp] theorem State.setRequests_chl (rs : List HostRequest) (s : State B P) : (s.setRequests rs).chl = s.chl := rfl
@[simp] theorem State.setRequests_tb (rs : List HostRequest) (s : State B P) : (s.setRequests rs).tb = s.tb := rfl
@[simp] theorem State.setRequests_perr (rs : List HostRequest) (s : State B P) : (s.setRequests rs).perr = s.perr := rfl
@[simp] theorem State.setRequests_mode (rs : List HostRequest) (s : State B P) : (s.setRequests rs).mode = s.mode := rfl
@[simp] theorem State.setRequests_sel (rs : List HostRequest) (s : State B P) : (s.setRequests rs).sel = s.sel := rfl
@[simp] theorem State.setRequests_trace (rs : List HostRequest) (s : State B P) : (s.setRequests rs).trace = s.trace := rfl
@[simp] theorem State.setRequests_responses (rs : List HostRequest) (s : State B P) : (s.setRequests rs).responses = s.responses := rfl
@[simp] theorem State.setRequests_requests (rs : List HostRequest) (s : State B P) : (s.setRequests rs).requests = rs := rfl
@[simp] theorem State.setRequests_selAnswers (rs : List HostRequest) (s : State B P) : (s.setRequests rs).selAnswers = s.selAnswers := rfl
@[simp] theorem State.setRequests_busAnswers (rs : List HostRequest) (s : State B P) : (s.setRequests rs).busAnswers = s.busAnswers := rfl
@[simp] theorem State.setRequests_draws (rs : List HostRequest) (s : State B P) : (s.setRequests rs).draws = s.draws := rfl

@[simp] theorem State.setSelAnswers_build (as : List (SelAnswer P)) (s : State B P) : (s.setSelAnswers as).build = s.build := rfl
@[simp] theorem State.setSelAnswers_ph (as : List (SelAnswer P)) (s : State B P) : (s.setSelAnswers as).ph = s.ph := rfl
@[simp] theorem State.setSelAnswers_chl (as : List (SelAnswer P)) (s : State B P) : (s.setSelAnswers as).chl = s.chl := rfl
@[simp] theorem State.setSelAnswers_tb (as : List (SelAnswer P)) (s : State B P) : (s.setSelAnswers as).tb = s.tb := rfl
@[simp] theorem State.setSelAnswers_perr (as : List (SelAnswer P)) (s : State B P) : (s.setSelAnswers as).perr = s.perr := rfl
@[simp] theorem State.setSelAnswers_mode (as : List (SelAnswer P)) (s : State B P) : (s.setSelAnswers as).mode = s.mode := rfl
@[simp] theorem State.setSelAnswers_sel (as : List (SelAnswer P)) (s : State B P) : (s.setSelAnswers as).sel = s.sel := rfl
@[simp] theorem State.setSelAnswers_trace (as : List (SelAnswer P)) (s : State B P) : (s.setSelAnswers as).trace = s.trace := rfl
@[simp] theorem State.setSelAnswers_responses (as : List (SelAnswer P)) (s : State B P) : (s.setSelAnswers as).responses = s.responses := rfl
@[simp] theorem State.setSelAnswers_requests (as : List (SelAnswer P)) (s : State B P) : (s.setSelAnswers as).requests = s.requests := rfl
@[simp] theorem State.setSelAnswers_selAnswers (as : List (SelAnswer P)) (s : State B P) : (s.setSelAnswers as).selAnswers = as := rfl
@[simp] theorem State.setSelAnswers_busAnswers (as : List (SelAnswer P)) (s : State B P) : (s.setSelAnswers as).busAnswers = s.busAnswers := rfl
@[simp] theorem State.setSelAnswers_draws (as : List (SelAnswer P)) (s : State B P) : (s.setSelAnswers as).draws = s.draws := rfl

@[simp] theorem State.setBusAnswers_build (as : List (BusAnswer B)) (s : State B P) : (s.setBusAnswers as).build = s.build := rfl
@[simp] theorem State.setBusAnswers_ph (as : List (BusAnswer B)) (s : State B P) : (s.setBusAnswers as).ph = s.ph := rfl
@[simp] theorem State.setBusAnswers_chl (as : List (BusAnswer B)) (s : State B P) : (s.setBusAnswers as).chl = s.chl := rfl
@[simp] theorem State.setBusAnswers_tb (as : List (BusAnswer B)) (s : State B P) : (s.setBusAnswers as).tb = s.tb := rfl
@[simp] theorem State.setBusAnswers_perr (as : List (BusAnswer B)) (s : State B P) : (s.setBusAnswers as).perr = s.perr := rfl
@[simp] theorem State.setBusAnswers_mode (as : List (BusAnswer B)) (s : State B P) : (s.setBusAnswers as).mode = s.mode := rfl
@[simp] theorem State.setBusAnswers_sel (as : List (BusAnswer B)) (s : State B P) : (s.setBusAnswers as).sel = s.sel := rfl
@[simp] theorem State.setBusAnswers_trace (as : List (BusAnswer B)) (s : State B P) : (s.setBusAnswers as).trace = s.trace := rfl
@[simp] theorem State.setBusAnswers_responses (as : List (BusAnswer B)) (s : State B P) : (s.setBusAnswers as).responses = s.responses := rfl
@[simp] theorem State.setBusAnswers_requests (as : List (BusAnswer B)) (s : State B P) : (s.setBusAnswers as).requests = s.requests := rfl
@[simp] theorem State.setBusAnswers_selAnswers (as : List (BusAnswer B)) (s : State B P) : (s.setBusAnswers as).selAnswers = s.selAnswers := rfl
@[simp] theorem State.setBusAnswers_busAnswers (as : List (BusAnswer B)) (s : State B P) : (s.setBusAnswers as).busAnswers = as := rfl
@[simp] theorem State.setBusAnswers_draws (as : List (BusAnswer B)) (s : State B P) : (s.setBusAnswers as).draws = s.draws := rfl

@[simp] theorem State.freeSel_build (s : State B P) : s.freeSel.build = s.build := rfl
@[simp] theorem State.freeSel_ph (s : State B P) : s.freeSel.ph = s.ph := rfl
@[simp] theorem State.freeSel_chl (s : State B P) : s.freeSel.chl = s.chl := rfl
@[simp] theorem State.freeSel_tb (s : State B P) : s.freeSel.tb = s.tb := rfl
@[simp] theorem State.freeSel_perr (s : State B P) : s.freeSel.perr = s.perr := rfl
@[simp] theorem State.freeSel_mode (s : State B P) : s.freeSel.mode = s.mode := rfl
@[simp] theorem State.freeSel_sel (s : State B P) : s.freeSel.sel = freeLevel s.draws := rfl
@[simp] theorem State.freeSel_trace (s : State B P) : s.freeSel.trace = s.trace := rfl
@[simp] theorem State.freeSel_responses (s : State B P) : s.freeSel.responses = s.responses := rfl
@[simp] theorem State.freeSel_requests (s : State B P) : s.freeSel.requests = s.requests := rfl
@[simp] theorem State.freeSel_selAnswers (s : State B P) : s.freeSel.selAnswers = s.selAnswers := rfl
@[simp] theorem State.freeSel_busAnswers (s : State B P) : s.freeSel.busAnswers = s.busAnswers := rfl
@[simp] theorem State.freeSel_draws (s : State B P) : s.freeSel.draws = s.draws + 1 := rfl

@[simp] theorem State.freeTb_build (s : State B P) : s.freeTb.build = s.build := rfl
@[simp] theorem State.freeTb_ph (s : State B P) : s.freeTb.ph = s.ph := rfl
@[simp] theorem State.freeTb_chl (s : State B P) : s.freeTb.chl = s.chl := rfl
@[simp] theorem State.freeTb_tb (s : State B P) :
    s.freeTb.tb = ⟨Config.freeByte s.draws, Config.freeByte (s.draws + 1), Config.freeByte (s.draws + 2)⟩ := rfl
@[simp] theorem State.freeTb_perr (s : State B P) : s.freeTb.perr = s.perr := rfl
@[simp] theorem State.freeTb_mode (s : State B P) : s.freeTb.mode = s.mode := rfl
@[simp] theorem State.freeTb_sel (s : State B P) : s.freeTb.sel = s.sel := rfl
@[simp] theorem State.freeTb_trace (s : State B P) : s.freeTb.trace = s.trace := rfl
@[simp] theorem State.freeTb_responses (s : State B P) : s.freeTb.responses = s.responses := rfl
@[simp] theorem State.freeTb_requests (s : State B P) : s.freeTb.requests = s.requests := rfl
@[simp] theorem State.freeTb_selAnswers (s : State B P) : s.freeTb.selAnswers = s.selAnswers := rfl
@[simp] theorem State.freeTb_busAnswers (s : State B P) : s.freeTb.busAnswers = s.busAnswers := rfl
@[simp] theorem State.freeTb_draws (s : State B P) : s.freeTb.draws = s.draws + 3 := rfl

@[simp] theorem State.buildFrame_build (s : State B P) : s.buildFrame.build = s.build := rfl
@[simp] theorem State.buildFrame_ph (s : State B P) : s.buildFrame.ph = s.ph := rfl
@[simp] theorem State.buildFrame_chl (s : State B P) : s.buildFrame.chl = s.chl := rfl
@[simp] theorem State.buildFrame_tb (s : State B P) : s.buildFrame.tb = frameToSend s := rfl
@[simp] theorem State.buildFrame_perr (s : State B P) : s.buildFrame.perr = s.perr := rfl
@[simp] theorem State.buildFrame_mode (s : State B P) : s.buildFrame.mode = s.mode := rfl
@[simp] theorem State.buildFrame_sel (s : State B P) : s.buildFrame.sel = s.sel := rfl
@[simp] theorem State.buildFrame_trace (s : State B P) : s.buildFrame.trace = s.trace := rfl
@[simp] theorem State.buildFrame_responses (s : State B P) : s.buildFrame.responses = s.responses := rfl
@[simp] theorem State.buildFrame_requests (s : State B P) : s.buildFrame.requests = s.requests := rfl
@[simp] theorem State.buildFrame_selAnswers (s : State B P) : s.buildFrame.selAnswers = s.selAnswers := rfl
@[simp] theorem State.buildFrame_busAnswers (s : State B P) : s.buildFrame.busAnswers = s.busAnswers := rfl
@[simp] theorem State.buildFrame_draws (s : State B P) : s.buildFrame.draws = s.draws + 1 := rfl

@[simp] theorem State.finish_build (r : Response B P) (s : State B P) : (s.finish r).build = s.build := rfl
@[simp] theorem State.finish_ph (r : Response B P) (s : State B P) : (s.finish r).ph = .idle := rfl
@[simp] theorem State.finish_chl (r : Response B P) (s : State B P) : (s.finish r).chl = s.chl := rfl
@[simp] theorem State.finish_tb (r : Response B P) (s : State B P) : (s.finish r).tb = s.tb := rfl
@[simp] theorem State.finish_perr (r : Response B P) (s : State B P) : (s.finish r).perr = s.perr := rfl
@[simp] theorem State.finish_mode (r : Response B P) (s : State B P) : (s.finish r).mode = s.mode := rfl
@[simp] theorem State.finish_sel (r : Response B P) (s : State B P) : (s.finish r).sel = s.sel := rfl
@[simp] theorem State.finish_trace (r : Response B P) (s : State B P) : (s.finish r).trace = s.trace := rfl
@[simp] theorem State.finish_responses (r : Response B P) (s : State B P) : (s.finish r).responses = s.responses ++ [r] := rfl
@[simp] theorem State.finish_requests (r : Response B P) (s : State B P) : (s.finish r).requests = s.requests := rfl
@[simp] theorem State.finish_selAnswers (r : Response B P) (s : State B P) : (s.finish r).selAnswers = s.selAnswers := rfl
@[simp] theorem State.finish_busAnswers (r : Response B P) (s : State B P) : (s.finish r).busAnswers = s.busAnswers := rfl
@[simp] theorem State.finish_draws (r : Response B P) (s : State B P) : (s.finish r).draws = s.draws := rfl

end Sys2Proof.Machine
end

