-- ==== Sys2Proof/Laws/Ops.lean ====
section
/-! SUPPORT. What each shared operation can do, said once: provers cite these and do not unfold the operations. -/

namespace Sys2Proof.Machine

variable {B P : Type}

/-! ### The three answers -/

@[simp] theorem answerSelActive_ok (s : State B P) :
    answerSelActive .ok s = .next { s with
      ph := .xfer, sel := .active, tb := outFrame s.chl (Config.freeByte s.draws),
      trace := s.trace ++ [.selActive .ok], draws := s.draws + 1 } := rfl

theorem answerSelActive_fail_typed (s : State B P) (p : P) (h : s.build.errTyping = .typed) :
    answerSelActive (.fail p) s = .next { s with
      ph := .idle, sel := freeLevel s.draws, trace := s.trace ++ [.selActive (.fail p)],
      responses := s.responses ++ [.err (.pin p)], draws := s.draws + 1 } := by
  simp only [answerSelActive, h]
  rfl

theorem answerSelActive_fail_bare (s : State B P) (p : P) (h : s.build.errTyping = .bare) :
    answerSelActive (.fail p) s = .refused .bareAssertFailure := by
  simp only [answerSelActive, h]

@[simp] theorem answerXfer_ok (s : State B P) (rx : Frame) :
    answerXfer (.ok rx) s = .next { s with
      ph := .deassert, tb := rx, trace := s.trace ++ [.xfer s.tb (.ok rx)] } := rfl

theorem answerXfer_fail_abort (s : State B P) (c : B) (h : s.build.xfailDeassert = false) :
    answerXfer (.fail c) s = .next { s with
      ph := .idle, tb := s.freeTb.tb, trace := s.trace ++ [.xfer s.tb (.fail c)],
      responses := s.responses ++ [.err (.comm c)], draws := s.draws + 3 } := by
  simp only [answerXfer, h]
  rfl

theorem answerXfer_fail_deassert (s : State B P) (c : B) (h : s.build.xfailDeassert = true) :
    answerXfer (.fail c) s = .next { s with
      ph := .deassert, tb := s.freeTb.tb, perr := some c, trace := s.trace ++ [.xfer s.tb (.fail c)],
      draws := s.draws + 3 } := by
  simp only [answerXfer, h]
  rfl

@[simp] theorem answerSelInactive_ok (s : State B P) :
    answerSelInactive .ok s = .next { s with
      ph := .idle, sel := .inactive, trace := s.trace ++ [.selInactive .ok],
      responses := s.responses ++ [responseAfterDeassert s.perr s.tb] } := rfl

@[simp] theorem answerSelInactive_fail (s : State B P) (p : P) :
    answerSelInactive (.fail p) s = .next { s with
      ph := .idle, sel := freeLevel s.draws, trace := s.trace ++ [.selInactive (.fail p)],
      responses := s.responses ++
        [responseAfterFailedDeassert s.build s.perr s.tb p (Config.freeReportsFirst (s.draws + 1))],
      draws := s.draws + 2 } := rfl

/-! ### One transition of the sequencer -/

@[simp] theorem advance_idle (s : State B P) (h : s.ph = .idle) : advance s = .next s := by
  simp only [advance, h]

theorem advance_assert_waits (s : State B P) (h : s.ph = .assert) (ha : s.selAnswers = []) : advance s = .next s := by
  simp only [advance, h, ha]

theorem advance_assert (s : State B P) (a : SelAnswer P) (sa : List (SelAnswer P)) (h : s.ph = .assert)
    (ha : s.selAnswers = a :: sa) : advance s = answerSelActive a (s.setSelAnswers sa) := by
  simp only [advance, h, ha]

theorem advance_xfer_waits (s : State B P) (h : s.ph = .xfer) (ha : s.busAnswers = []) : advance s = .next s := by
  simp only [advance, h, ha]

theorem advance_xfer (s : State B P) (a : BusAnswer B) (ba : List (BusAnswer B)) (h : s.ph = .xfer)
    (ha : s.busAnswers = a :: ba) : advance s = answerXfer a (s.setBusAnswers ba) := by
  simp only [advance, h, ha]

theorem advance_deassert_waits (s : State B P) (h : s.ph = .deassert) (ha : s.selAnswers = []) :
    advance s = .next s := by
  simp only [advance, h, ha]

theorem advance_deassert (s : State B P) (a : SelAnswer P) (sa : List (SelAnswer P)) (h : s.ph = .deassert)
    (ha : s.selAnswers = a :: sa) : advance s = answerSelInactive a (s.setSelAnswers sa) := by
  simp only [advance, h, ha]

/-- Everything one transition can do: it changes nothing, or it takes one answer to the call in flight. -/
theorem advance_cases (s : State B P) :
    advance s = .next s ∨
    (∃ a sa, s.ph = .assert ∧ s.selAnswers = a :: sa ∧ advance s = answerSelActive a (s.setSelAnswers sa)) ∨
    (∃ a ba, s.ph = .xfer ∧ s.busAnswers = a :: ba ∧ advance s = answerXfer a (s.setBusAnswers ba)) ∨
    (∃ a sa, s.ph = .deassert ∧ s.selAnswers = a :: sa ∧ advance s = answerSelInactive a (s.setSelAnswers sa)) := by
  cases h : s.ph with
  | idle => exact .inl (advance_idle s h)
  | assert =>
    cases ha : s.selAnswers with
    | nil => exact .inl (advance_assert_waits s h ha)
    | cons a sa => exact .inr (.inl ⟨a, sa, rfl, rfl, advance_assert s a sa h ha⟩)
  | xfer =>
    cases ha : s.busAnswers with
    | nil => exact .inl (advance_xfer_waits s h ha)
    | cons a ba => exact .inr (.inr (.inl ⟨a, ba, rfl, rfl, advance_xfer s a ba h ha⟩))
  | deassert =>
    cases ha : s.selAnswers with
    | nil => exact .inl (advance_deassert_waits s h ha)
    | cons a sa => exact .inr (.inr (.inr ⟨a, sa, rfl, rfl, advance_deassert s a sa h ha⟩))

/-! ### Several transitions -/

@[simp] theorem advances_zero (s : State B P) : advances 0 s = .next s := rfl

theorem advances_succ (n : Nat) (s t : State B P) (h : advance s = .next t) : advances (n + 1) s = advances n t := by
  simp only [advances, h]

theorem advances_refused (n : Nat) (s : State B P) (r : Refusal) (h : advance s = .refused r) :
    advances (n + 1) s = .refused r := by
  simp only [advances, h]

/-- From a state that one transition leaves as it is, any number of them does. -/
theorem advances_fixed (n : Nat) (s : State B P) (h : advance s = .next s) : advances n s = .next s := by
  induction n with
  | zero => rfl
  | succ n ih => rw [advances_succ n s s h, ih]

theorem advances_idle (n : Nat) (s : State B P) (h : s.ph = .idle) : advances n s = .next s :=
  advances_fixed n s (advance_idle s h)

/-- A property every transition keeps is kept by any number of them. -/
theorem advances_keeps (Q : State B P → Prop) (hQ : ∀ s t, Q s → advance s = .next t → Q t) :
    ∀ (n : Nat) (s t : State B P), Q s → advances n s = .next t → Q t := by
  intro n
  induction n with
  | zero => intro s t hs h; cases h; exact hs
  | succ n ih =>
    intro s t hs h
    cases hu : advance s with
    | next u => exact ih u t (hQ s u hs hu) (by rw [← advances_succ n s u hu]; exact h)
    | fault r => nomatch r
    | refused r => rw [advances_refused n s r hu] at h; cases h

/-! ### The whole read, the instructions, the step -/

theorem accept_eq (a : Address) (s : State B P) :
    accept a s = { s with chl := a, perr := none, ph := .assert } := rfl

theorem readChannel_accepts (s : State B P) (a : Address) (h : s.ph = .idle) :
    readChannel s.build.variant a s = advances 3 (accept a s) := by
  simp only [readChannel, h, if_true]

theorem readChannel_busy (s : State B P) (a : Address) (h : s.ph ≠ .idle) :
    readChannel s.build.variant a s = .next s := by
  simp only [readChannel, h, if_true, if_false]

theorem readChannel_other (v : Variant) (s : State B P) (a : Address) (h : s.build.variant ≠ v) :
    readChannel v a s = .refused .notOfThisDevice := by
  simp only [readChannel, h, if_false]

/-- An instruction is a read of its own address on its own device. -/
theorem execOf_eq_readChannel (i : Instr) (s : State B P) : execOf i s = readChannel i.variant i.address s := by
  cases i <;> rfl

/-- `exec` is the machine over any error types, at the two of the host's machine. -/
theorem exec_eq_execOf : exec = execOf := by
  funext i s
  cases i <;> rfl

theorem exec_eq_readChannel (i : Instr) (s : State) : exec i s = readChannel i.variant i.address s := by
  rw [exec_eq_execOf, execOf_eq_readChannel]

theorem Instr.wf_iff (v : Variant) (i : Instr) : i.wf v = true ↔ i.variant = v := by
  simp [Instr.wf]

/-- Everything an instruction can do: it is refused, it is not accepted, or it is accepted and carried on. -/
theorem execOf_cases (i : Instr) (s : State B P) :
    (s.build.variant ≠ i.variant ∧ execOf i s = .refused .notOfThisDevice) ∨
    (s.build.variant = i.variant ∧ s.ph ≠ .idle ∧ execOf i s = .next s) ∨
    (s.build.variant = i.variant ∧ s.ph = .idle ∧ execOf i s = advances 3 (accept i.address s)) := by
  rw [execOf_eq_readChannel]
  by_cases hv : s.build.variant = i.variant
  · by_cases hp : s.ph = .idle
    · exact .inr (.inr ⟨hv, hp, by rw [← hv]; exact readChannel_accepts s _ hp⟩)
    · exact .inr (.inl ⟨hv, hp, by rw [← hv]; exact readChannel_busy s _ hp⟩)
  · exact .inl ⟨hv, readChannel_other _ s _ hv⟩

theorem exec_cases (i : Instr) (s : State) :
    (s.build.variant ≠ i.variant ∧ exec i s = .refused .notOfThisDevice) ∨
    (s.build.variant = i.variant ∧ s.ph ≠ .idle ∧ exec i s = .next s) ∨
    (s.build.variant = i.variant ∧ s.ph = .idle ∧ exec i s = advances 3 (accept i.address s)) := by
  rw [exec_eq_execOf]
  exact execOf_cases i s

theorem newBlock_idle (s : State B P) (h : s.ph = .idle) :
    newBlock s = .next { s with
      chl := addressOf s.build.variant (Config.freeByte s.draws),
      tb := (s.drawn 1).freeTb.tb, perr := none, trace := [], responses := [], draws := s.draws + 4 } := by
  simp only [newBlock, h, if_true]
  simp only [State.freeTb, State.setTb, State.drawn, State.setChl]

theorem newBlock_busy (s : State B P) (h : s.ph ≠ .idle) : newBlock s = .refused .resetDuringRead := by
  simp only [newBlock, h, if_false]

/-! ### What is presented, whatever an instruction does -/

section Present

variable (run : Instr → State B P → Result B P) (s : State B P)

theorem present_nothing (h : s.requests = []) : present run s = advance s := by
  simp only [present, h]

theorem present_new (rest : List HostRequest) (h : s.requests = .new :: rest) :
    present run s = newBlock (s.setRequests rest) := by
  simp only [present, h]

theorem present_read (i : Instr) (rest : List HostRequest) (hp : s.ph = .idle)
    (h : s.requests = .read i :: rest) : present run s = run i (s.setRequests rest) := by
  rw [present]
  split <;> simp_all

theorem present_frame (f : Frame) (i : Instr) (rest : List HostRequest) (hp : s.ph = .idle)
    (h : s.requests = .frame f :: rest) (hd : decode s.build.variant (frameBytes f) = .ok i) :
    present run s = run i (s.setRequests rest) := by
  rw [present]
  split <;> simp_all

theorem present_foreign (f : Frame) (why : NotAFrame) (rest : List HostRequest) (hp : s.ph = .idle)
    (h : s.requests = .frame f :: rest) (hd : decode s.build.variant (frameBytes f) = .error why) :
    present run s = .refused (.notAFrame why) := by
  rw [present]
  split <;> simp_all

/-- While a read is in progress a step is one transition, whatever read is presented. -/
theorem present_busy (h : s.ph ≠ .idle) (hn : s.requests.head? ≠ some .new) : present run s = advance s := by
  simp only [present]
  split <;> simp_all

/-- Everything a step can do when it answers a next state. -/
theorem present_next_cases (t : State B P) (h : present run s = .next t) :
    advance s = .next t ∨
    (∃ rest, s.requests = .new :: rest ∧ s.ph = .idle ∧ newBlock (s.setRequests rest) = .next t) ∨
    (∃ i r rest, s.requests = r :: rest ∧ r ≠ .new ∧ s.ph = .idle ∧ run i (s.setRequests rest) = .next t) := by
  simp only [present] at h
  split at h
  · exact .inl h
  · rename_i rest hr
    by_cases hp : s.ph = .idle
    · exact .inr (.inl ⟨rest, hr, hp, h⟩)
    · rw [newBlock_busy _ (by simpa using hp)] at h; cases h
  · rename_i i rest hr
    split at h
    · rename_i hp; exact .inr (.inr ⟨i, _, rest, hr, by simp, hp, h⟩)
    · exact .inl h
  · rename_i f rest hr
    split at h
    · rename_i hp
      split at h
      · rename_i i _; exact .inr (.inr ⟨i, _, rest, hr, by simp, hp, h⟩)
      · cases h
    · exact .inl h

end Present

/-! ### The step of the host's machine -/

/-- `step` is the machine over any error types, at the two of the host's machine. -/
theorem step_eq_stepOf : step = stepOf := by
  funext s
  rw [step, stepOf, exec_eq_execOf]

theorem step_nothing_presented (s : State) (h : s.requests = []) : step s = advance s := present_nothing exec s h

theorem step_new (s : State) (rest : List HostRequest) (h : s.requests = .new :: rest) :
    step s = newBlock (s.setRequests rest) := present_new exec s rest h

theorem step_read (s : State) (i : Instr) (rest : List HostRequest) (hp : s.ph = .idle)
    (h : s.requests = .read i :: rest) : step s = exec i (s.setRequests rest) := present_read exec s i rest hp h

theorem step_frame (s : State) (f : Frame) (i : Instr) (rest : List HostRequest) (hp : s.ph = .idle)
    (h : s.requests = .frame f :: rest) (hd : decode s.build.variant (frameBytes f) = .ok i) :
    step s = exec i (s.setRequests rest) := present_frame exec s f i rest hp h hd

theorem step_busy (s : State) (h : s.ph ≠ .idle) (hn : s.requests.head? ≠ some .new) : step s = advance s :=
  present_busy exec s h hn

theorem step_next_cases (s t : State) (h : step s = .next t) :
    advance s = .next t ∨
    (∃ rest, s.requests = .new :: rest ∧ s.ph = .idle ∧ newBlock (s.setRequests rest) = .next t) ∨
    (∃ i r rest, s.requests = r :: rest ∧ r ≠ .new ∧ s.ph = .idle ∧ exec i (s.setRequests rest) = .next t) :=
  present_next_cases exec s t h

end Sys2Proof.Machine
end

