-- ==== Sys2Proof/Laws/PerInstr.lean ====
section
/-! SUPPORT. One lemma per instruction: its encoded word is its row of spec/opcode_table.json, whatever the undefined
byte holds. -/

namespace Sys2Proof.Laws.TableRow

/-- The `match` of each row, as spec/opcode_table.json writes it. -/
def rowMatch : Instr → BitVec 24
  | .c8ch0 => 0x018000#24
  | .c8ch1 => 0x019000#24
  | .c8ch2 => 0x01A000#24
  | .c8ch3 => 0x01B000#24
  | .c8ch4 => 0x01C000#24
  | .c8ch5 => 0x01D000#24
  | .c8ch6 => 0x01E000#24
  | .c8ch7 => 0x01F000#24
  | .c4ch0 => 0x018000#24
  | .c4ch1 => 0x019000#24
  | .c4ch2 => 0x01A000#24
  | .c4ch3 => 0x01B000#24

/-- The encoded word of an instruction is its row's `match` under the mask, its number is that of its address, and
the address is one of its device. -/
def Statement (i : Instr) : Prop :=
  tableMatch i = rowMatch i ∧ onDevice i.variant i.address = true ∧
    ∀ u, frameWord (encode i u) &&& tableMask = rowMatch i

theorem c8ch0 : Statement .c8ch0 := ⟨by decide, by decide, by decide⟩

theorem c8ch1 : Statement .c8ch1 := ⟨by decide, by decide, by decide⟩

theorem c8ch2 : Statement .c8ch2 := ⟨by decide, by decide, by decide⟩

theorem c8ch3 : Statement .c8ch3 := ⟨by decide, by decide, by decide⟩

theorem c8ch4 : Statement .c8ch4 := ⟨by decide, by decide, by decide⟩

theorem c8ch5 : Statement .c8ch5 := ⟨by decide, by decide, by decide⟩

theorem c8ch6 : Statement .c8ch6 := ⟨by decide, by decide, by decide⟩

theorem c8ch7 : Statement .c8ch7 := ⟨by decide, by decide, by decide⟩

theorem c4ch0 : Statement .c4ch0 := ⟨by decide, by decide, by decide⟩

theorem c4ch1 : Statement .c4ch1 := ⟨by decide, by decide, by decide⟩

theorem c4ch2 : Statement .c4ch2 := ⟨by decide, by decide, by decide⟩

theorem c4ch3 : Statement .c4ch3 := ⟨by decide, by decide, by decide⟩

end Sys2Proof.Laws.TableRow
end

