-- ==== Sys2Proof/Tests/Slice0.lean ====
section
/-! SUPPORT. Small tests with expected results from spec/ (the vectors of 95_test_vectors.md and the worked examples of
R110 to R121), and for every statement with hypotheses a witness that meets them. -/

namespace Sys2Proof.Tests

open Sys2Proof.Machine

/-- The builds the tests use: the default, the Channel-4 Device, `XFAIL_DEASSERT = false`, and `BARE`. -/
def build8 : Build := Build.default

def build4 : Build := { Build.default with variant := .channel4 }

def buildAbort : Build := { Build.default with xfailDeassert := false }

def buildBare : Build := { Build.default with errTyping := .bare }

def buildDouble (d : DoubleFault) : Build := { Build.default with doubleFault := d }

def c1 : BusErr := ⟨11⟩

def p1 : PinErr := ⟨22⟩

/-- A constructed block with answers that have arrived. -/
def block (b : Build) (sa : List SelAnswer) (ba : List BusAnswer) : State :=
  { State.construct b with selAnswers := sa, busAnswers := ba }

/-- The same in a phase, with requests presented. -/
def busy (b : Build) (p : Phase) (sa : List SelAnswer) (ba : List BusAnswer) (rq : List HostRequest) : State :=
  { block b sa ba with ph := p, requests := rq }

/-- What a test looks at in an outcome. -/
def responsesOf : Result → List Response
  | .next s => s.responses
  | _ => []

def phaseOf : Result → Option Phase
  | .next s => some s.ph
  | _ => none

def selOf : Result → Option Level
  | .next s => some s.sel
  | _ => none

def refusalOf : Result → Option Refusal
  | .refused r => some r
  | _ => none

/-! ### The frame: encodings and the decoder -/

/-- Vectors V-E1 to V-E8: `TB[1]` of each Channel-8 instruction. -/
theorem test_command_bytes :
    (deviceInstrs .channel8).map (fun i => (encode i 0x5A).b1) = [0x80, 0x90, 0xA0, 0xB0, 0xC0, 0xD0, 0xE0, 0xF0] := by
  decide

/-- Vectors V-E9 to V-E12. -/
theorem test_command_bytes_channel4 :
    (deviceInstrs .channel4).map (fun i => (encode i 0x5A).b1) = [0x80, 0x90, 0xA0, 0xB0] := by
  decide

/-- The row's pattern, bit 23 first, with the undefined byte all ones. -/
theorem test_decode_c8ch0 :
    decodeFrame .channel8 (wordFrame 0b00000001_10000000_11111111#24) = .ok .c8ch0 := by decide

/-- The row's pattern, bit 23 first, with the undefined byte all ones. -/
theorem test_decode_c8ch1 :
    decodeFrame .channel8 (wordFrame 0b00000001_10010000_11111111#24) = .ok .c8ch1 := by decide

/-- The row's pattern, bit 23 first, with the undefined byte all ones. -/
theorem test_decode_c8ch2 :
    decodeFrame .channel8 (wordFrame 0b00000001_10100000_11111111#24) = .ok .c8ch2 := by decide

/-- The row's pattern, bit 23 first, with the undefined byte all ones. -/
theorem test_decode_c8ch3 :
    decodeFrame .channel8 (wordFrame 0b00000001_10110000_11111111#24) = .ok .c8ch3 := by decide

/-- The row's pattern, bit 23 first, with the undefined byte all ones. -/
theorem test_decode_c8ch4 :
    decodeFrame .channel8 (wordFrame 0b00000001_11000000_11111111#24) = .ok .c8ch4 := by decide

/-- The row's pattern, bit 23 first, with the undefined byte all ones. -/
theorem test_decode_c8ch5 :
    decodeFrame .channel8 (wordFrame 0b00000001_11010000_11111111#24) = .ok .c8ch5 := by decide

/-- The row's pattern, bit 23 first, with the undefined byte all ones. -/
theorem test_decode_c8ch6 :
    decodeFrame .channel8 (wordFrame 0b00000001_11100000_11111111#24) = .ok .c8ch6 := by decide

/-- The row's pattern, bit 23 first, with the undefined byte all ones. -/
theorem test_decode_c8ch7 :
    decodeFrame .channel8 (wordFrame 0b00000001_11110000_11111111#24) = .ok .c8ch7 := by decide

/-- The row's pattern, bit 23 first, with the undefined byte all ones. -/
theorem test_decode_c4ch0 :
    decodeFrame .channel4 (wordFrame 0b00000001_10000000_11111111#24) = .ok .c4ch0 := by decide

/-- The row's pattern, bit 23 first, with the undefined byte all ones. -/
theorem test_decode_c4ch1 :
    decodeFrame .channel4 (wordFrame 0b00000001_10010000_11111111#24) = .ok .c4ch1 := by decide

/-- The row's pattern, bit 23 first, with the undefined byte all ones. -/
theorem test_decode_c4ch2 :
    decodeFrame .channel4 (wordFrame 0b00000001_10100000_11111111#24) = .ok .c4ch2 := by decide

/-- The row's pattern, bit 23 first, with the undefined byte all ones. -/
theorem test_decode_c4ch3 :
    decodeFrame .channel4 (wordFrame 0b00000001_10110000_11111111#24) = .ok .c4ch3 := by decide

/-- Vector V-O4: `SGL` = 0. -/
theorem test_decode_differential : decode .channel8 [0x01, 0x00, 0x00] = .error .differential := by decide

/-- Vector V-O5: `PAD` not zero. -/
theorem test_decode_pad : decode .channel8 [0x01, 0x81, 0x00] = .error .pad := by decide

/-- Vector V-O6: `START` = 0. -/
theorem test_decode_start : decode .channel8 [0x00, 0x80, 0x00] = .error .start := by decide

/-- Vector V-O7: `LEAD` not zero. -/
theorem test_decode_lead : decode .channel8 [0x03, 0x80, 0x00] = .error .lead := by decide

/-- Vector V-O9: `ADDR` bit 2 set on the Channel-4 Device. -/
theorem test_decode_channel : decode .channel4 [0x01, 0xC0, 0x00] = .error .channel := by decide

/-- 30_encoding.md R60: a frame is 3 bytes. -/
theorem test_decode_length : decode .channel8 [0x01, 0x80] = .error .length := by decide

/-- 30_encoding.md R61: the numbering of a frame, and the table word of a row. -/
theorem test_frame_word : frameWord ⟨0x01, 0xF0, 0x5A⟩ = 0x01F05A#24 ∧ decodeTableWord 24 0x01F000 = some .c8ch7 := by
  decide

/-! ### Well-formedness: each check refuses an ill-formed term -/

/-- A Channel-8 instruction is none of the Channel-4 Device's, and the other way round (30_encoding.md R68). -/
theorem test_wf_other_device : Instr.wf .channel4 .c8ch5 = false ∧ Instr.wf .channel8 .c4ch0 = false := by decide

/-- Address 4 is none of the Channel-4 Device's (30_encoding.md R70). -/
theorem test_address_not_on_device : onDevice .channel4 4 = false ∧ onDevice .channel8 4 = true := by decide

/-- 30_encoding.md R70: the device has exactly `2 ^ AW` addresses. -/
theorem test_channel_count :
    Variant.channels .channel8 = 2 ^ Variant.addressWidth .channel8 ∧
    Variant.channels .channel4 = 2 ^ Variant.addressWidth .channel4 := by decide

/-! ### The arithmetic -/

/-- Vectors V-D1 to V-D25. -/
theorem test_decode_result_vectors :
    [(0x00, 0x00, 0), (0x00, 0x01, 1), (0x00, 0x7F, 127), (0x00, 0x80, 128), (0x00, 0xFF, 255), (0x01, 0x00, 256),
     (0x01, 0xFF, 511), (0x02, 0x00, 512), (0x02, 0x01, 513), (0x03, 0x00, 768), (0x03, 0xFE, 1022),
     (0x03, 0xFF, 1023), (0x04, 0x00, 0), (0x04, 0x01, 1), (0x07, 0xFF, 1023), (0x08, 0x00, 0), (0x80, 0x00, 0),
     (0xFC, 0x00, 0), (0xFC, 0xFF, 255), (0xFD, 0x00, 256), (0xFE, 0xAA, 682), (0xFF, 0xFF, 1023), (0x55, 0x55, 341),
     (0xAA, 0xAA, 682), (0x13, 0x37, 823)].all
      (fun x : Byte × Byte × Container => decodeResult ⟨0xA5, x.1, x.2.1⟩ == x.2.2) = true := by decide

/-- 30_encoding.md R75: the binary tags. -/
theorem test_response_tags :
    [(.ok 5 : Response), .err (.comm c1), .err (.pin p1)].map responseTag = [0, 1, 2] := by decide

/-- The constants of 00_scope.md R10 and 10_state.md R28. -/
theorem test_published_constants :
    Level.isHigh .active = false ∧ Level.isHigh .inactive = true ∧
    SpiMode.cpol State.reset.mode = false ∧ SpiMode.cpha State.reset.mode = false := by decide

/-! ### The worked examples of R110 to R121 -/

/-- The worked example of R110. -/
theorem test_read_c8ch0 :
    responsesOf (exec .c8ch0 (block build8 [.ok, .ok] [.ok ⟨0x00, 0x03, 0xFF⟩])) = [.ok 1023] := by decide

/-- The worked example of R111. -/
theorem test_read_c8ch1 :
    responsesOf (exec .c8ch1 (block build8 [.ok, .ok] [.ok ⟨0xFF, 0x00, 0x00⟩])) = [.ok 0] := by decide

/-- The worked example of R112. -/
theorem test_read_c8ch2 :
    responsesOf (exec .c8ch2 (block build8 [.ok, .ok] [.ok ⟨0x00, 0x02, 0x00⟩])) = [.ok 512] := by decide

/-- The worked example of R113. -/
theorem test_read_c8ch3 :
    responsesOf (exec .c8ch3 (block build8 [.ok, .ok] [.ok ⟨0x00, 0x01, 0x2C⟩])) = [.ok 300] := by decide

/-- The worked example of R114. -/
theorem test_read_c8ch4 :
    responsesOf (exec .c8ch4 (block build8 [.ok, .ok] [.ok ⟨0x00, 0xFF, 0xFF⟩])) = [.ok 1023] := by decide

/-- The worked example of R115. -/
theorem test_read_c8ch5 :
    responsesOf (exec .c8ch5 (block build8 [.ok, .ok] [.ok ⟨0xAA, 0xFC, 0x01⟩])) = [.ok 1] := by decide

/-- The worked example of R116. -/
theorem test_read_c8ch6 :
    responsesOf (exec .c8ch6 (block build8 [.ok, .ok] [.ok ⟨0x00, 0x06, 0x80⟩])) = [.ok 640] := by decide

/-- The worked example of R117. -/
theorem test_read_c8ch7 :
    responsesOf (exec .c8ch7 (block build8 [.ok, .ok] [.ok ⟨0x00, 0x00, 0xFF⟩])) = [.ok 255] := by decide

/-- The worked example of R118. -/
theorem test_read_c4ch0 :
    responsesOf (exec .c4ch0 (block build4 [.ok, .ok] [.ok ⟨0x00, 0x01, 0x00⟩])) = [.ok 256] := by decide

/-- The worked example of R119. -/
theorem test_read_c4ch1 :
    responsesOf (exec .c4ch1 (block build4 [.ok, .ok] [.ok ⟨0x00, 0x02, 0xA5⟩])) = [.ok 677] := by decide

/-- The worked example of R120. -/
theorem test_read_c4ch2 :
    responsesOf (exec .c4ch2 (block build4 [.ok, .ok] [.ok ⟨0x12, 0x34, 0x56⟩])) = [.ok 86] := by decide

/-- The worked example of R121. -/
theorem test_read_c4ch3 :
    responsesOf (exec .c4ch3 (block build4 [.ok, .ok] [.ok ⟨0x00, 0x03, 0x00⟩])) = [.ok 768] := by decide

/-! ### The sequences V-S1 to V-S10 -/

/-- The instruction and response of the vectors of section 2.4. -/
def run (b : Build) (sa : List SelAnswer) (ba : List BusAnswer) : Result := exec .c8ch2 (block b sa ba)

def rx : Frame := ⟨0x00, 0x02, 0x9A⟩

/-- V-S1. -/
theorem test_s1 : responsesOf (run build8 [.ok, .ok] [.ok rx]) = [.ok 666] ∧
    selOf (run build8 [.ok, .ok] [.ok rx]) = some .inactive := by decide

/-- V-S2. -/
theorem test_s2 : responsesOf (run build8 [.fail p1] []) = [.err (.pin p1)] ∧
    phaseOf (run build8 [.fail p1] []) = some .idle := by decide

/-- V-S3: the line stays active. -/
theorem test_s3 : responsesOf (run buildAbort [.ok] [.fail c1]) = [.err (.comm c1)] ∧
    selOf (run buildAbort [.ok] [.fail c1]) = some .active := by decide

/-- V-S4: the line is released. -/
theorem test_s4 : responsesOf (run build8 [.ok, .ok] [.fail c1]) = [.err (.comm c1)] ∧
    selOf (run build8 [.ok, .ok] [.fail c1]) = some .inactive := by decide

/-- V-S5a, V-S5b. -/
theorem test_s5 : responsesOf (run (buildDouble .first) [.ok, .fail p1] [.fail c1]) = [.err (.comm c1)] ∧
    responsesOf (run (buildDouble .second) [.ok, .fail p1] [.fail c1]) = [.err (.pin p1)] := by decide

/-- V-S5d. -/
theorem test_s5d : responsesOf (run buildBare [.ok, .fail p1] [.fail c1]) = [.err (.comm c1)] := by decide

/-- V-S6, V-S7. -/
theorem test_s6_s7 : responsesOf (run build8 [.ok, .fail p1] [.ok rx]) = [.err (.pin p1)] ∧
    responsesOf (run buildBare [.ok, .fail p1] [.ok rx]) = [.ok 666] := by decide

/-- V-S8. -/
theorem test_s8 : refusalOf (run buildBare [.fail p1] []) = some .bareAssertFailure := by decide

/-- V-S9: the transport never answers. -/
theorem test_s9 : phaseOf (run build8 [.ok] []) = some .xfer ∧ selOf (run build8 [.ok] []) = some .active := by decide

/-- V-S10: the controller never answers; `SEL` is as at reset. -/
theorem test_s10 : phaseOf (run build8 [] []) = some .assert ∧ selOf (run build8 [] []) = some .inactive := by decide

/-- 00_scope.md R11, decision D26: the machine at other types of error values passes them through too. -/
theorem test_other_error_types :
    (match execOf .c8ch2 { State.construct build8 Unit Bool with selAnswers := [.fail true] } with
      | .next s => s.responses
      | _ => []) = [.err (.pin true)] := by decide

/-- 41_channel_read_protocol.md R106: the read goes on as its answers arrive. -/
theorem test_answers_arrive :
    responsesOf (runWithArrivals [⟨[.ok], []⟩, .nothing, ⟨[], [.ok rx]⟩, ⟨[.ok], []⟩]
      (busy build8 .assert [] [] [])) = [.ok 666] := by decide

/-! ### Acceptance, reset, and the step -/

/-- V-B1: a command presented in `XFER` is not accepted and stays the host's. -/
theorem test_busy_not_accepted :
    step (busy build8 .xfer [] [] [.read .c8ch5]) = .next (busy build8 .xfer [] [] [.read .c8ch5]) := rfl

/-- V-N1, V-N2: construction leaves `IDLE`, no event and `SEL = CS_INIT`, and takes no answer. -/
theorem test_construct : (State.construct { build8 with csInit := .active }).sel = .active ∧
    State.reset.ph = .idle ∧ State.reset.trace = [] ∧ State.reset.perr = none := by decide

/-- V-N3: a read on a line that is already active. -/
theorem test_read_on_active_line :
    responsesOf (exec .c8ch0 (block { build8 with csInit := .active } [.ok, .ok] [.ok ⟨0, 0, 0⟩])) = [.ok 0] ∧
    selOf (exec .c8ch0 (block { build8 with csInit := .active } [.ok, .ok] [.ok ⟨0, 0, 0⟩])) = some .inactive := by
  decide

/-- V-N4: a reset presented in `XFER` is refused. -/
theorem test_reset_during_read :
    refusalOf (step (busy build8 .xfer [] [] [.new])) = some .resetDuringRead := by decide

/-- 70_reset_and_hazards.md R163: after reset the block waits. -/
theorem test_reset_waits : step State.reset = .next State.reset := rfl

/-- A table word placed after reset is accepted by the first step. -/
theorem test_first_instruction : phaseOf (step (State.reset.withFetchWord 24 0x01D000)) = some .assert := by decide

/-- A word that is no frame of this block is refused by name. -/
theorem test_foreign_word :
    refusalOf (step (State.reset.withFetchWord 24 0x010000)) = some (.notAFrame .differential) := by decide

/-- The Channel-4 Device runs its own row's word. -/
theorem test_channel4_word :
    phaseOf (step ((State.construct build4).withFetchWord 24 0x01B000)) = some .assert ∧
    refusalOf (step ((State.construct build4).withFetchWord 24 0x01C000)) = some (.notAFrame .channel) := by decide

/-! ### Witnesses: the hypotheses of each statement can be met together -/

theorem witness_DecodeRangeAndTolerance :
    Instr.wf build8.variant .c8ch7 = true ∧ (block build8 [.ok, .ok] [.ok ⟨0xFF, 0xFF, 0xFF⟩]).ph = .idle ∧
    (block build8 [.ok, .ok] [.ok ⟨0xFF, 0xFF, 0xFF⟩]).selAnswers = .ok :: .ok :: [] ∧
    (block build8 [.ok, .ok] [.ok ⟨0xFF, 0xFF, 0xFF⟩]).busAnswers = .ok ⟨0xFF, 0xFF, 0xFF⟩ :: [] ∧
    (⟨0x00, 0xFF, 0x10⟩ : Frame).b1.extractLsb' 0 2 = (⟨0xFF, 0x03, 0x10⟩ : Frame).b1.extractLsb' 0 2 ∧
    (⟨0x00, 0xFF, 0x10⟩ : Frame).b2 = (⟨0xFF, 0x03, 0x10⟩ : Frame).b2 := by decide

theorem witness_StepRunsThePresentedInstruction :
    (busy build4 .idle [] [] [.read .c4ch3]).ph = .idle ∧
    (busy build4 .idle [] [] [.read .c4ch3]).requests = .read .c4ch3 :: [] ∧
    (busy build4 .idle [] [] [.frame ⟨0x01, 0xB0, 0xFF⟩]).ph = .idle ∧
    (busy build4 .idle [] [] [.frame ⟨0x01, 0xB0, 0xFF⟩]).requests = .frame ⟨0x01, 0xB0, 0xFF⟩ :: [] ∧
    decode build4.variant (frameBytes ⟨0x01, 0xB0, 0xFF⟩) = .ok .c4ch3 := by decide

theorem witness_ForeignFrameIsRefused :
    (busy build4 .idle [] [] [.frame ⟨0x01, 0xC0, 0x00⟩]).ph = .idle ∧
    (busy build4 .idle [] [] [.frame ⟨0x01, 0xC0, 0x00⟩]).requests = .frame ⟨0x01, 0xC0, 0x00⟩ :: [] ∧
    decode build4.variant (frameBytes ⟨0x01, 0xC0, 0x00⟩) = .error .channel := by decide

theorem witness_OtherDevicesInstructionIsRefused :
    Instr.wf (block build8 [] []).build.variant .c4ch0 = false := by decide

theorem witness_CommandAcceptedOnlyWhenIdle :
    (Instr.wf build8.variant .c8ch5 = true ∧ (block build8 [] []).ph = .idle) ∧
    ((busy build8 .xfer [] [.ok rx] []).ph ≠ .idle ∧
      Instr.wf (busy build8 .xfer [] [.ok rx] []).build.variant .c8ch5 = true) ∧
    ((busy build8 .xfer [] [.ok rx] [.read .c8ch5]).ph ≠ .idle ∧
      (busy build8 .xfer [] [.ok rx] [.read .c8ch5]).requests = .read .c8ch5 :: [] ∧ HostRequest.read .c8ch5 ≠ .new) ∧
    ((busy build8 .deassert [] [] [.frame ⟨0, 0, 0⟩, .new]).ph ≠ .idle ∧
      (busy build8 .deassert [] [] [.frame ⟨0, 0, 0⟩, .new]).requests = .frame ⟨0, 0, 0⟩ :: [.new] ∧
      HostRequest.frame ⟨0, 0, 0⟩ ≠ .new) := by decide

theorem witness_AcceptanceLatchesTheOperand :
    Instr.wf build8.variant .c8ch7 = true ∧ (block build8 [] []).ph = .idle ∧ (block build8 [] []).selAnswers = [] := by
  decide

theorem witness_SelActiveAnswered :
    NoResetPresented (busy build8 .assert [.ok] [] []) ∧ (busy build8 .assert [.ok] [] []).ph = .assert ∧
    NoResetPresented (busy buildBare .assert [.fail p1] [] []) ∧ (busy build8 .assert [.ok] [] []).selAnswers = .ok :: [] ∧
    (busy build8 .assert [.fail p1] [] []).selAnswers = .fail p1 :: [] ∧
    (busy build8 .assert [.fail p1] [] []).build.errTyping = .typed ∧
    (busy buildBare .assert [.fail p1] [] []).build.errTyping = .bare := by decide

/-- A state in `XFER` that is well formed. -/
def inXfer (b : Build) (ba : List BusAnswer) : State :=
  { busy b .xfer [.ok] ba [] with tb := outFrame 0 0x5A, sel := .active }

theorem inXfer_wf (b : Build) (ba : List BusAnswer) : (inXfer b ba).Wf where
  latch_on_device := by obtain ⟨v, _, _, _, _⟩ := b; cases v <;> rfl
  assert_perr := nofun
  xfer_perr := fun _ => rfl
  xfer_frame := fun _ => ⟨0x5A, rfl⟩
  xfer_active := fun _ => rfl
  deassert_active := nofun
  deassert_perr := nofun

theorem witness_XferAnswered :
    NoResetPresented (inXfer build8 [.ok rx]) ∧ (inXfer build8 [.ok rx]).ph = .xfer ∧
    (inXfer build8 [.ok rx]).busAnswers = .ok rx :: [] ∧ (inXfer build8 [.fail c1]).build.xfailDeassert = true ∧
    (inXfer buildAbort [.fail c1]).busAnswers = .fail c1 :: [] ∧
    (inXfer buildAbort [.fail c1]).build.xfailDeassert = false ∧ (inXfer build8 [.ok rx]).Wf :=
  ⟨by decide, by decide, by decide, by decide, by decide, by decide, inXfer_wf _ _⟩

/-- A state in `DEASSERT`, with or without a held transfer error. -/
def inDeassert (b : Build) (e : Option BusErr) (sa : List SelAnswer) : State :=
  { busy b .deassert sa [] [] with tb := rx, sel := .active, perr := e }

theorem witness_SelInactiveAnswered :
    NoResetPresented (inDeassert build8 none [.ok]) ∧ (inDeassert build8 none [.ok]).ph = .deassert ∧
    (inDeassert build8 none [.ok]).selAnswers = .ok :: [] ∧ (inDeassert build8 none [.ok]).perr = none ∧
    (inDeassert build8 (some c1) [.fail p1]).selAnswers = .fail p1 :: [] ∧
    (inDeassert build8 (some c1) [.fail p1]).perr = some c1 ∧
    (inDeassert buildBare (some c1) [.fail p1]).build.errTyping = .bare ∧
    (inDeassert (buildDouble .first) (some c1) [.fail p1]).build.doubleFault = .first ∧
    (inDeassert (buildDouble .second) (some c1) [.fail p1]).build.doubleFault = .second ∧
    (inDeassert build8 (some c1) [.fail p1]).build.doubleFault = .either := by decide

theorem witness_UnansweredCallWaits :
    NoResetPresented (busy build8 .assert [] [] []) ∧ (busy build8 .assert [] [] []).selAnswers = [] ∧
    (busy build8 .xfer [] [] []).busAnswers = [] ∧ (busy build8 .deassert [] [] []).selAnswers = [] := by decide

theorem witness_IdleBlockWaits : State.reset.ph = .idle ∧ State.reset.requests = [] := by decide

theorem witness_Channel8ReadCompletes :
    (block build8 [.ok, .ok] [.ok rx]).build.variant = .channel8 ∧ (block build8 [.ok, .ok] [.ok rx]).ph = .idle ∧
    (block build8 [.ok, .ok] [.ok rx]).selAnswers = .ok :: .ok :: [] ∧
    (block build8 [.ok, .ok] [.ok rx]).busAnswers = .ok rx :: [] := by decide

theorem witness_Channel4ReadCompletes :
    (block build4 [.ok, .ok] [.ok rx]).build.variant = .channel4 ∧ (block build4 [.ok, .ok] [.ok rx]).ph = .idle ∧
    (block build4 [.ok, .ok] [.ok rx]).selAnswers = .ok :: .ok :: [] ∧
    (block build4 [.ok, .ok] [.ok rx]).busAnswers = .ok rx :: [] := by decide

theorem witness_FailedAssertEndsTheRead :
    Instr.wf (block build4 [.fail p1] []).build.variant .c4ch3 = true ∧ (block build4 [.fail p1] []).ph = .idle ∧
    (block build4 [.fail p1] []).selAnswers = .fail p1 :: [] ∧
    (block build4 [.fail p1] []).build.errTyping = .typed := by decide

theorem witness_BareFailedAssertIsRefused :
    Instr.wf (block buildBare [.fail p1] []).build.variant .c8ch0 = true ∧
    (block buildBare [.fail p1] []).ph = .idle ∧ (block buildBare [.fail p1] []).selAnswers = .fail p1 :: [] ∧
    (block buildBare [.fail p1] []).build.errTyping = .bare := by decide

theorem witness_FailedTransferAbortsAtOnce :
    Instr.wf (block buildAbort [.ok] [.fail c1]).build.variant .c8ch0 = true ∧
    (block buildAbort [.ok] [.fail c1]).ph = .idle ∧ (block buildAbort [.ok] [.fail c1]).selAnswers = .ok :: [] ∧
    (block buildAbort [.ok] [.fail c1]).busAnswers = .fail c1 :: [] ∧
    (block buildAbort [.ok] [.fail c1]).build.xfailDeassert = false := by decide

theorem witness_FailedTransferReleasesTheLine :
    Instr.wf (block build8 [.ok, .ok] [.fail c1]).build.variant .c8ch0 = true ∧
    (block build8 [.ok, .ok] [.fail c1]).selAnswers = .ok :: .ok :: [] ∧
    (block build8 [.ok, .ok] [.fail c1]).busAnswers = .fail c1 :: [] ∧
    (block build8 [.ok, .ok] [.fail c1]).ph = .idle ∧
    (block build8 [.ok, .ok] [.fail c1]).build.xfailDeassert = true := by decide

theorem witness_DoubleFailureReportsOneError :
    Instr.wf (block build8 [.ok, .fail p1] [.fail c1]).build.variant .c8ch0 = true ∧
    (block build8 [.ok, .fail p1] [.fail c1]).selAnswers = .ok :: .fail p1 :: [] ∧
    (block build8 [.ok, .fail p1] [.fail c1]).busAnswers = .fail c1 :: [] ∧
    (block build8 [.ok, .fail p1] [.fail c1]).ph = .idle ∧
    (block build8 [.ok, .fail p1] [.fail c1]).build.xfailDeassert = true := by decide

theorem witness_FailedDeassertAfterGoodTransfer :
    Instr.wf (block build8 [.ok, .fail p1] [.ok rx]).build.variant .c8ch0 = true ∧
    (block build8 [.ok, .fail p1] [.ok rx]).selAnswers = .ok :: .fail p1 :: [] ∧
    (block build8 [.ok, .fail p1] [.ok rx]).busAnswers = .ok rx :: [] ∧
    (block build8 [.ok, .fail p1] [.ok rx]).ph = .idle ∧
    (block build8 [.ok, .fail p1] [.ok rx]).build.errTyping = .typed ∧
    (block buildBare [.ok, .fail p1] [.ok rx]).build.errTyping = .bare := by decide

theorem witness_EndedReadHasAListedTrace :
    (block build8 [.ok, .ok] [.ok rx]).ph = .idle ∧
    ∃ t, exec .c8ch2 (block build8 [.ok, .ok] [.ok rx]) = .next t ∧ t.ph = .idle :=
  ⟨by decide, _, rfl, rfl⟩

theorem witness_ReadRefinesTheReference :
    Instr.wf (block build8 [.ok, .fail p1] [.fail c1]).build.variant .c8ch6 = true ∧
    (block build8 [.ok, .fail p1] [.fail c1]).ph = .idle ∧
    (block build8 [.ok, .fail p1] [.fail c1]).selAnswers = .ok :: .fail p1 :: [] ∧
    (block build8 [.ok, .fail p1] [.fail c1]).busAnswers = .fail c1 :: [] := by decide

/-- The second case: a failed assert under `BARE`. -/
theorem witness_ReadRefinesTheReference_refused :
    (Instr.wf (block buildBare [.fail p1, .ok] [.ok rx]).build.variant .c8ch6 = true ∧
      (block buildBare [.fail p1, .ok] [.ok rx]).ph = .idle ∧
      (block buildBare [.fail p1, .ok] [.ok rx]).selAnswers = .fail p1 :: .ok :: [] ∧
      (block buildBare [.fail p1, .ok] [.ok rx]).busAnswers = .ok rx :: []) ∧
    exec .c8ch6 (block buildBare [.fail p1, .ok] [.ok rx]) = .refused .bareAssertFailure :=
  ⟨by decide, rfl⟩

/-- Two idle blocks with the same answers in this read, whose earlier reads left different things and whose later reads
will be answered differently. -/
theorem witness_ReadIsStateless :
    SameInputs (block build8 [.ok, .ok, .ok] [.ok rx])
      { block build8 [.ok, .ok, .fail p1] [.ok rx, .fail c1] with
        chl := 7, tb := rx, perr := some c1, sel := .active, responses := [.err (.comm c1)] } :=
  ⟨rfl, rfl, rfl, rfl, rfl, rfl⟩

theorem witness_ReadFrame :
    (∃ t, exec .c8ch2 (block build8 [.ok, .ok] [.ok rx]) = .next t) ∧
    ((busy build8 .xfer [] [] []).ph ≠ .idle ∧ ∃ t, exec .c8ch2 (busy build8 .xfer [] [] []) = .next t) :=
  ⟨⟨_, rfl⟩, by decide, _, rfl⟩

theorem witness_BuildNeverChanges : ∃ t, step (busy build8 .idle [] [] [.new]) = .next t := ⟨_, rfl⟩

theorem witness_TraceOnlyGrows :
    NoResetPresented (busy build8 .idle [.fail p1] [] [.read .c8ch0]) ∧
    ∃ t, step (busy build8 .idle [.fail p1] [] [.read .c8ch0]) = .next t := ⟨by decide, _, rfl⟩

theorem witness_AtMostOneOfEachCall :
    (block build8 [.ok, .ok] [.ok rx]).ph = .idle ∧
    ∃ t, exec .c8ch2 (block build8 [.ok, .ok] [.ok rx]) = .next t ∧ t.ph = .idle ∧ .selActive .ok ∈ t.trace :=
  ⟨by decide, _, rfl, rfl, .head _⟩

theorem witness_AtMostOneOfEachCall_failedAssert :
    ∃ t, exec .c8ch2 (block build8 [.fail p1] []) = .next t ∧ .selActive (.fail p1) ∈ t.trace :=
  ⟨_, rfl, .head _⟩

theorem witness_SuccessfulReadMakesThreeCalls :
    (block build8 [.ok, .ok] [.ok rx]).ph = .idle ∧ ∃ t, exec .c8ch2 (block build8 [.ok, .ok] [.ok rx]) = .next t ∧
      t.responses = (block build8 [.ok, .ok] [.ok rx]).responses ++ [.ok 666] :=
  ⟨by decide, _, rfl, rfl⟩

theorem witness_ErrorsNameTheirCause :
    (∃ t, exec .c8ch2 (block build8 [.ok, .ok] [.fail c1]) = .next t ∧ t.responses = [] ++ [.err (.comm c1)]) ∧
    ∃ t, exec .c8ch2 (block build8 [.fail p1] []) = .next t ∧ t.responses = [] ++ [.err (.pin p1)] :=
  ⟨⟨_, rfl, rfl⟩, _, rfl, rfl⟩

theorem witness_AnsweredReadEnds :
    Instr.wf (block build8 [.ok, .ok] [.ok rx]).build.variant .c8ch0 = true ∧
    (block build8 [.ok, .ok] [.ok rx]).ph = .idle ∧ 2 ≤ (block build8 [.ok, .ok] [.ok rx]).selAnswers.length ∧
    1 ≤ (block build8 [.ok, .ok] [.ok rx]).busAnswers.length := by decide

theorem witness_NewResetsAnIdleBlock :
    (busy build8 .idle [] [] [.new]).ph = .idle ∧ (busy build8 .idle [] [] [.new]).requests = .new :: [] := by decide

theorem witness_NewDuringAReadIsRefused :
    (busy build8 .assert [] [] [.new]).ph ≠ .idle ∧ (busy build8 .assert [] [] [.new]).requests = .new :: [] := by
  decide

theorem witness_PhaseMovesOnlyAsListed :
    (∃ t, advance (inXfer build8 [.fail c1]) = .next t) ∧
    ∃ t, exec .c8ch2 (block build8 [.ok, .ok] [.ok rx]) = .next t := ⟨⟨_, rfl⟩, _, rfl⟩

theorem witness_StrayResponseBitsAreDiscarded :
    Instr.wf (block build8 [.ok, .ok] []).build.variant .c8ch2 = true ∧ (block build8 [.ok, .ok] []).ph = .idle ∧
    (block build8 [.ok, .ok] []).selAnswers = .ok :: .ok :: [] ∧
    (⟨0x00, 0xFD, 0x10⟩ : Frame).b1.extractLsb' 0 2 = (⟨0xFF, 0x01, 0x10⟩ : Frame).b1.extractLsb' 0 2 ∧
    ∃ t, exec .c8ch2 { block build8 [.ok, .ok] [] with busAnswers := [.ok ⟨0x00, 0xFD, 0x10⟩] } = .next t :=
  ⟨by decide, by decide, by decide, by decide, _, rfl⟩

/-- The transport's answer arrives first, then nothing, then the controller's two, one at a time. -/
theorem witness_LateAnswersGiveTheSameRead :
    Instr.wf (block build8 [.ok, .ok] [.ok rx]).build.variant .c8ch2 = true ∧
    (block build8 [.ok, .ok] [.ok rx]).ph = .idle ∧
    [⟨[], [.ok rx]⟩, .nothing, ⟨[.ok], []⟩, (⟨[.ok], []⟩ : Arrivals)].flatMap (·.sel) =
      (block build8 [.ok, .ok] [.ok rx]).selAnswers ∧
    [⟨[], [.ok rx]⟩, .nothing, ⟨[.ok], []⟩, (⟨[.ok], []⟩ : Arrivals)].flatMap (·.bus) =
      (block build8 [.ok, .ok] [.ok rx]).busAnswers := by decide

theorem witness_StepKeepsWellFormed :
    (inXfer build8 [.fail c1]).Wf ∧ ∃ t, step (inXfer build8 [.fail c1]) = .next t := ⟨inXfer_wf _ _, _, rfl⟩

/-- The same state after the event that brought it there. -/
def inXferTraced : State := { inXfer build8 [.fail c1] with trace := [.selActive .ok] }

theorem witness_StepKeepsHistory : inXferTraced.Wf ∧ History inXferTraced ∧ ∃ t, step inXferTraced = .next t :=
  have w := inXfer_wf build8 [.fail c1]
  ⟨⟨w.1, w.2, w.3, w.4, w.5, w.6, w.7⟩, ⟨[], [.selActive .ok], nofun, rfl, rfl, rfl⟩, _, rfl⟩

end Sys2Proof.Tests
end

/-! The build is written by no operation, so by no step (00_scope.md R2, 10_state.md R29). -/

namespace Sys2Proof.Machine

variable {B P : Type}

theorem answerSelActive_keeps_build {a : SelAnswer P} {s t : State B P} (h : answerSelActive a s = .next t) :
    t.build = s.build := by
  cases a with
  | ok => cases h; rfl
  | fail p =>
    cases hb : s.build.errTyping with
    | typed => rw [answerSelActive_fail_typed s p hb] at h; cases h; rfl
    | bare => rw [answerSelActive_fail_bare s p hb] at h; cases h

theorem answerXfer_keeps_build {a : BusAnswer B} {s t : State B P} (h : answerXfer a s = .next t) :
    t.build = s.build := by
  cases a with
  | ok rx => cases h; rfl
  | fail c =>
    cases hb : s.build.xfailDeassert with
    | true => rw [answerXfer_fail_deassert s c hb] at h; cases h; rfl
    | false => rw [answerXfer_fail_abort s c hb] at h; cases h; rfl

theorem answerSelInactive_keeps_build {a : SelAnswer P} {s t : State B P} (h : answerSelInactive a s = .next t) :
    t.build = s.build := by
  cases a <;> (cases h; rfl)

theorem advance_keeps_build {s t : State B P} (h : advance s = .next t) : t.build = s.build := by
  obtain hw | ⟨a, sa, _, _, he⟩ | ⟨a, ba, _, _, he⟩ | ⟨a, sa, _, _, he⟩ := advance_cases s
  · rw [hw] at h; cases h; rfl
  · exact answerSelActive_keeps_build (s := s.setSelAnswers sa) (he.symm.trans h)
  · exact answerXfer_keeps_build (s := s.setBusAnswers ba) (he.symm.trans h)
  · exact answerSelInactive_keeps_build (s := s.setSelAnswers sa) (he.symm.trans h)

theorem advances_keeps_build {n : Nat} {s t : State B P} (h : advances n s = .next t) : t.build = s.build :=
  advances_keeps (·.build = s.build) (fun _ _ hu hadv => (advance_keeps_build hadv).trans hu) n s t rfl h

theorem execOf_keeps_build {i : Instr} {s t : State B P} (h : execOf i s = .next t) : t.build = s.build := by
  obtain ⟨_, he⟩ | ⟨_, _, he⟩ | ⟨_, _, he⟩ := execOf_cases i s
  · rw [he] at h; cases h
  · rw [he] at h; cases h; rfl
  · exact advances_keeps_build (s := accept i.address s) (he.symm.trans h)

theorem newBlock_keeps_build {s t : State B P} (hp : s.ph = .idle) (h : newBlock s = .next t) :
    t.build = s.build := by
  rw [newBlock_idle s hp] at h; cases h; rfl

/-- A step over any error types keeps the build. -/
theorem stepOf_keeps_build {s t : State B P} (h : stepOf s = .next t) : t.build = s.build := by
  obtain hadv | ⟨rest, _, hp, hnew⟩ | ⟨i, _, rest, _, _, _, hrun⟩ := present_next_cases execOf s t h
  · exact advance_keeps_build hadv
  · exact newBlock_keeps_build (s := s.setRequests rest) hp hnew
  · exact execOf_keeps_build (s := s.setRequests rest) hrun

/-- Settles O33: each thing a step can do keeps the build. -/
theorem buildNeverChanges : Obligations.BuildNeverChanges := by
  intro s t h
  rw [step_eq_stepOf] at h
  exact stepOf_keeps_build h

end Sys2Proof.Machine

/-! Replacing the error values commutes with every operation, so with a step (00_scope.md R11, decision D26). -/

namespace Sys2Proof.Machine

section ErrorValues

variable {B P B' P' : Type} (f : B → B') (g : P → P') (s : State B P)

/-! ### What `mapErrors` leaves in each field -/

@[simp] theorem State.mapErrors_build : (s.mapErrors f g).build = s.build := rfl
@[simp] theorem State.mapErrors_tb : (s.mapErrors f g).tb = s.tb := rfl
@[simp] theorem State.mapErrors_perr : (s.mapErrors f g).perr = s.perr.map f := rfl
@[simp] theorem State.mapErrors_selAnswers :
    (s.mapErrors f g).selAnswers = s.selAnswers.map (SelAnswer.mapErrors g) := rfl
@[simp] theorem State.mapErrors_busAnswers :
    (s.mapErrors f g).busAnswers = s.busAnswers.map (BusAnswer.mapErrors f) := rfl
@[simp] theorem State.mapErrors_draws : (s.mapErrors f g).draws = s.draws := rfl

/-! ### `mapErrors` and the writes of the state -/

@[simp] theorem State.mapErrors_setPh (p : Phase) : (s.setPh p).mapErrors f g = (s.mapErrors f g).setPh p := rfl
@[simp] theorem State.mapErrors_setTb (x : Frame) : (s.setTb x).mapErrors f g = (s.mapErrors f g).setTb x := rfl
@[simp] theorem State.mapErrors_setPerr (e : Option B) :
    (s.setPerr e).mapErrors f g = (s.mapErrors f g).setPerr (e.map f) := rfl
@[simp] theorem State.mapErrors_setSel (l : Level) : (s.setSel l).mapErrors f g = (s.mapErrors f g).setSel l := rfl
@[simp] theorem State.mapErrors_drawn (n : Nat) : (s.drawn n).mapErrors f g = (s.mapErrors f g).drawn n := rfl
@[simp] theorem State.mapErrors_freeSel : s.freeSel.mapErrors f g = (s.mapErrors f g).freeSel := rfl
@[simp] theorem State.mapErrors_freeTb : s.freeTb.mapErrors f g = (s.mapErrors f g).freeTb := rfl
@[simp] theorem State.mapErrors_buildFrame : s.buildFrame.mapErrors f g = (s.mapErrors f g).buildFrame := rfl

@[simp] theorem State.mapErrors_emit (e : Event B P) :
    (s.emit e).mapErrors f g = (s.mapErrors f g).emit (e.mapErrors f g) := by
  simp [State.mapErrors, State.emit]

@[simp] theorem State.mapErrors_finish (r : Response B P) :
    (s.finish r).mapErrors f g = (s.mapErrors f g).finish (r.mapErrors f g) := by
  simp [State.mapErrors, State.finish, State.respond, State.setPh]

theorem State.mapErrors_setRequests (rs : List HostRequest) :
    (s.setRequests rs).mapErrors f g = (s.mapErrors f g).setRequests rs := rfl
theorem State.mapErrors_setSelAnswers (sa : List (SelAnswer P)) :
    (s.setSelAnswers sa).mapErrors f g = (s.mapErrors f g).setSelAnswers (sa.map (SelAnswer.mapErrors g)) := rfl
theorem State.mapErrors_setBusAnswers (ba : List (BusAnswer B)) :
    (s.setBusAnswers ba).mapErrors f g = (s.mapErrors f g).setBusAnswers (ba.map (BusAnswer.mapErrors f)) := rfl
theorem State.mapErrors_accept (a : Address) :
    (accept a s).mapErrors f g = accept a (s.mapErrors f g) := rfl

/-! ### `mapErrors` and the response that ends a read -/

theorem responseAfterDeassert_mapErrors (perr : Option B) (tb : Frame) :
    responseAfterDeassert (perr.map f) tb = (responseAfterDeassert perr tb : Response B P).mapErrors f g := by
  cases perr <;> rfl

theorem doubleFaultResponse_mapErrors (d : DoubleFault) (c : B) (p : P) (first : Bool) :
    doubleFaultResponse d (f c) (g p) first = (doubleFaultResponse d c p first).mapErrors f g := by
  cases d with
  | first => rfl
  | second => rfl
  | either => cases first <;> rfl

theorem responseAfterFailedDeassert_mapErrors (b : Build) (perr : Option B) (tb : Frame) (p : P) (first : Bool) :
    responseAfterFailedDeassert b (perr.map f) tb (g p) first =
      (responseAfterFailedDeassert b perr tb p first).mapErrors f g := by
  cases perr with
  | none => cases h : b.errTyping <;> simp [responseAfterFailedDeassert, h, Response.mapErrors]
  | some c =>
    cases h : b.errTyping with
    | typed => simpa [responseAfterFailedDeassert, h] using doubleFaultResponse_mapErrors f g b.doubleFault c p first
    | bare => simp [responseAfterFailedDeassert, h, Response.mapErrors]

/-! ### `mapErrors` and the three answers -/

@[simp] theorem Result.onNext_next (h : State B P → State B' P') : Result.onNext h (.next s) = .next (h s) := rfl
@[simp] theorem Result.onNext_refused (h : State B P → State B' P') (r : Refusal) :
    Result.onNext h (.refused r) = .refused r := rfl

theorem answerSelActive_mapErrors (a : SelAnswer P) :
    answerSelActive (a.mapErrors g) (s.mapErrors f g) = (answerSelActive a s).onNext (State.mapErrors f g) := by
  cases a with
  | ok => simp [answerSelActive, SelAnswer.mapErrors, Event.mapErrors]
  | fail p =>
    cases hb : s.build.errTyping <;>
      simp [answerSelActive, SelAnswer.mapErrors, Event.mapErrors, Response.mapErrors, hb]

theorem answerXfer_mapErrors (a : BusAnswer B) :
    answerXfer (a.mapErrors f) (s.mapErrors f g) = (answerXfer a s).onNext (State.mapErrors f g) := by
  cases a with
  | ok rx => simp [answerXfer, BusAnswer.mapErrors, Event.mapErrors]
  | fail c =>
    cases hb : s.build.xfailDeassert <;>
      simp [answerXfer, BusAnswer.mapErrors, Event.mapErrors, Response.mapErrors, hb]

theorem answerSelInactive_mapErrors (a : SelAnswer P) :
    answerSelInactive (a.mapErrors g) (s.mapErrors f g) = (answerSelInactive a s).onNext (State.mapErrors f g) := by
  cases a with
  | ok =>
    simp [answerSelInactive, SelAnswer.mapErrors, Event.mapErrors, responseAfterDeassert_mapErrors f g]
  | fail p =>
    simp [answerSelInactive, SelAnswer.mapErrors, Event.mapErrors, responseAfterFailedDeassert_mapErrors f g]

/-! ### `mapErrors` and the transitions, the read, the step -/

theorem advance_mapErrors : advance (s.mapErrors f g) = (advance s).onNext (State.mapErrors f g) := by
  cases h : s.ph with
  | idle => rw [advance_idle s h, advance_idle (s.mapErrors f g) h, Result.onNext_next]
  | assert =>
    cases ha : s.selAnswers with
    | nil =>
      rw [advance_assert_waits s h ha, advance_assert_waits (s.mapErrors f g) h (by simp [ha]), Result.onNext_next]
    | cons a sa =>
      rw [advance_assert s a sa h ha,
        advance_assert (s.mapErrors f g) (a.mapErrors g) (sa.map (SelAnswer.mapErrors g)) h (by simp [ha]),
        ← State.mapErrors_setSelAnswers, answerSelActive_mapErrors]
  | xfer =>
    cases ha : s.busAnswers with
    | nil =>
      rw [advance_xfer_waits s h ha, advance_xfer_waits (s.mapErrors f g) h (by simp [ha]), Result.onNext_next]
    | cons a ba =>
      rw [advance_xfer s a ba h ha,
        advance_xfer (s.mapErrors f g) (a.mapErrors f) (ba.map (BusAnswer.mapErrors f)) h (by simp [ha]),
        ← State.mapErrors_setBusAnswers, answerXfer_mapErrors]
  | deassert =>
    cases ha : s.selAnswers with
    | nil =>
      rw [advance_deassert_waits s h ha, advance_deassert_waits (s.mapErrors f g) h (by simp [ha]), Result.onNext_next]
    | cons a sa =>
      rw [advance_deassert s a sa h ha,
        advance_deassert (s.mapErrors f g) (a.mapErrors g) (sa.map (SelAnswer.mapErrors g)) h (by simp [ha]),
        ← State.mapErrors_setSelAnswers, answerSelInactive_mapErrors]

theorem advances_mapErrors (n : Nat) :
    advances n (s.mapErrors f g) = (advances n s).onNext (State.mapErrors f g) := by
  induction n generalizing s with
  | zero => rfl
  | succ n ih =>
    have hadv := advance_mapErrors f g s
    cases h : advance s with
    | next t =>
      rw [h] at hadv
      rw [advances_succ n s t h, advances_succ n _ _ hadv, ih]
    | fault r => nomatch r
    | refused r =>
      rw [h] at hadv
      rw [advances_refused n s r h, advances_refused n _ r hadv, Result.onNext_refused]

theorem readChannel_mapErrors (v : Variant) (a : Address) :
    readChannel v a (s.mapErrors f g) = (readChannel v a s).onNext (State.mapErrors f g) := by
  by_cases hv : s.build.variant = v
  · subst hv
    by_cases hp : s.ph = .idle
    · rw [readChannel_accepts s a hp, ← advances_mapErrors, State.mapErrors_accept]
      exact readChannel_accepts (s.mapErrors f g) a hp
    · rw [readChannel_busy s a hp]
      exact readChannel_busy (s.mapErrors f g) a hp
  · rw [readChannel_other v s a hv, readChannel_other v (s.mapErrors f g) a hv, Result.onNext_refused]

theorem execOf_mapErrors (i : Instr) :
    execOf i (s.mapErrors f g) = (execOf i s).onNext (State.mapErrors f g) := by
  rw [execOf_eq_readChannel, execOf_eq_readChannel, readChannel_mapErrors]

theorem newBlock_mapErrors : newBlock (s.mapErrors f g) = (newBlock s).onNext (State.mapErrors f g) := by
  by_cases h : s.ph = .idle
  · rw [newBlock_idle s h, newBlock_idle (s.mapErrors f g) h]; rfl
  · rw [newBlock_busy s h, newBlock_busy (s.mapErrors f g) h, Result.onNext_refused]

/-- A step commutes with `mapErrors` when what an instruction does commutes with it. -/
theorem present_mapErrors (run : Instr → State B P → Result B P) (run' : Instr → State B' P' → Result B' P')
    (hrun : ∀ i u, run' i (u.mapErrors f g) = (run i u).onNext (State.mapErrors f g)) :
    present run' (s.mapErrors f g) = (present run s).onNext (State.mapErrors f g) := by
  by_cases hn : s.requests.head? = some .new
  · obtain ⟨rest, hr⟩ := List.head?_eq_some_iff.mp hn
    rw [present_new run s rest hr, present_new run' (s.mapErrors f g) rest hr, ← State.mapErrors_setRequests,
      newBlock_mapErrors]
  by_cases hp : s.ph = .idle
  · cases hr : s.requests with
    | nil => rw [present_nothing run s hr, present_nothing run' (s.mapErrors f g) hr, advance_mapErrors]
    | cons r rest =>
      cases r with
      | new => simp [hr] at hn
      | read i =>
        rw [present_read run s i rest hp hr, present_read run' (s.mapErrors f g) i rest hp hr,
          ← State.mapErrors_setRequests, hrun]
      | frame w =>
        cases hd : decode s.build.variant (frameBytes w) with
        | ok i =>
          rw [present_frame run s w i rest hp hr hd, present_frame run' (s.mapErrors f g) w i rest hp hr hd,
            ← State.mapErrors_setRequests, hrun]
        | error why =>
          rw [present_foreign run s w why rest hp hr hd, present_foreign run' (s.mapErrors f g) w why rest hp hr hd,
            Result.onNext_refused]
  · rw [present_busy run s hp hn, present_busy run' (s.mapErrors f g) hp hn, advance_mapErrors]

theorem stepOf_mapErrors : stepOf (s.mapErrors f g) = (stepOf s).onNext (State.mapErrors f g) :=
  present_mapErrors f g s execOf execOf fun i u => execOf_mapErrors f g u i

end ErrorValues

/-- Settles O43: every operation a step is made of commutes with `State.mapErrors`. -/
theorem errorValuesPassThrough : Obligations.ErrorValuesPassThrough :=
  ⟨fun _ _ _ _ f g s => stepOf_mapErrors f g s, fun s => congrFun step_eq_stepOf s⟩

end Sys2Proof.Machine

/-! What one transition of the sequencer can do, each case by its name with its conditions and the state it leaves
(10_state.md R26). Proofs about the read split on these cases. -/

namespace Sys2Proof.Machine

section Moves

variable {B P : Type}

/-- No transition is enabled: the block is idle, or the call in flight has no answer yet
(41_channel_read_protocol.md R106). -/
def State.Waits (s : State B P) : Prop :=
  match s.ph with
  | .idle => True
  | .assert => s.selAnswers = []
  | .xfer => s.busAnswers = []
  | .deassert => s.selAnswers = []

/-- `Moves s t`: one transition of the sequencer takes `s` to `t`. -/
inductive Moves (s : State B P) : State B P → Prop where
  /-- Nothing happens. -/
  | waits (hw : s.Waits) : Moves s s
  /-- R88: the line is asserted and the frame is built. -/
  | asserted (sa : List (SelAnswer P)) (hp : s.ph = .assert) (ha : s.selAnswers = .ok :: sa) :
    Moves s { s with
      ph := .xfer, sel := .active, tb := outFrame s.chl (Config.freeByte s.draws),
      trace := s.trace ++ [.selActive .ok], selAnswers := sa, draws := s.draws + 1 }
  /-- R88: the assert failed, which ends the read. -/
  | assertFailed (p : P) (sa : List (SelAnswer P)) (hp : s.ph = .assert) (ha : s.selAnswers = .fail p :: sa)
      (he : s.build.errTyping = .typed) :
    Moves s { s with
      ph := .idle, sel := freeLevel s.draws, trace := s.trace ++ [.selActive (.fail p)],
      responses := s.responses ++ [.err (.pin p)], selAnswers := sa, draws := s.draws + 1 }
  /-- R92: the frame was exchanged. -/
  | transferred (rx : Frame) (ba : List (BusAnswer B)) (hp : s.ph = .xfer) (ha : s.busAnswers = .ok rx :: ba) :
    Moves s { s with
      ph := .deassert, tb := rx, trace := s.trace ++ [.xfer s.tb (.ok rx)], busAnswers := ba }
  /-- R93, `XFAIL_DEASSERT = false`: the transfer failed, which ends the read. -/
  | transferAborted (c : B) (ba : List (BusAnswer B)) (hp : s.ph = .xfer) (ha : s.busAnswers = .fail c :: ba)
      (hx : s.build.xfailDeassert = false) :
    Moves s { s with
      ph := .idle, tb := s.freeTb.tb, trace := s.trace ++ [.xfer s.tb (.fail c)],
      responses := s.responses ++ [.err (.comm c)], busAnswers := ba, draws := s.draws + 3 }
  /-- R93, `XFAIL_DEASSERT = true`: the transfer failed, and its error is held while the line is released. -/
  | transferFailed (c : B) (ba : List (BusAnswer B)) (hp : s.ph = .xfer) (ha : s.busAnswers = .fail c :: ba)
      (hx : s.build.xfailDeassert = true) :
    Moves s { s with
      ph := .deassert, tb := s.freeTb.tb, perr := some c, trace := s.trace ++ [.xfer s.tb (.fail c)],
      busAnswers := ba, draws := s.draws + 3 }
  /-- R95: the line is released, which ends the read. -/
  | released (sa : List (SelAnswer P)) (hp : s.ph = .deassert) (ha : s.selAnswers = .ok :: sa) :
    Moves s { s with
      ph := .idle, sel := .inactive, trace := s.trace ++ [.selInactive .ok],
      responses := s.responses ++ [responseAfterDeassert s.perr s.tb], selAnswers := sa }
  /-- R96: the release failed, which ends the read. -/
  | releaseFailed (p : P) (sa : List (SelAnswer P)) (hp : s.ph = .deassert) (ha : s.selAnswers = .fail p :: sa) :
    Moves s { s with
      ph := .idle, sel := freeLevel s.draws, trace := s.trace ++ [.selInactive (.fail p)],
      responses := s.responses ++
        [responseAfterFailedDeassert s.build s.perr s.tb p (Config.freeReportsFirst (s.draws + 1))],
      selAnswers := sa, draws := s.draws + 2 }

theorem State.waits_of_idle {s : State B P} (h : s.ph = .idle) : s.Waits := by
  simp only [State.Waits, h]

theorem advance_of_waits {s : State B P} (h : s.Waits) : advance s = .next s := by
  cases hp : s.ph <;> simp only [State.Waits, hp] at h
  · exact advance_idle s hp
  · exact advance_assert_waits s hp h
  · exact advance_xfer_waits s hp h
  · exact advance_deassert_waits s hp h

/-- Each case is what the sequencer does. -/
theorem Moves.advance {s t : State B P} (h : Moves s t) : advance s = .next t := by
  cases h with
  | waits hw => exact advance_of_waits hw
  | asserted sa hp ha => rw [advance_assert s _ sa hp ha]; rfl
  | assertFailed p sa hp ha he =>
    rw [advance_assert s _ sa hp ha, answerSelActive_fail_typed (s.setSelAnswers sa) p he]; rfl
  | transferred rx ba hp ha => rw [advance_xfer s _ ba hp ha]; rfl
  | transferAborted c ba hp ha hx =>
    rw [advance_xfer s _ ba hp ha, answerXfer_fail_abort (s.setBusAnswers ba) c hx]; rfl
  | transferFailed c ba hp ha hx =>
    rw [advance_xfer s _ ba hp ha, answerXfer_fail_deassert (s.setBusAnswers ba) c hx]; rfl
  | released sa hp ha => rw [advance_deassert s _ sa hp ha]; rfl
  | releaseFailed p sa hp ha =>
    rw [advance_deassert s _ sa hp ha]; exact answerSelInactive_fail (s.setSelAnswers sa) p

/-- A transition is refused for a failed assert on a `BARE` block only (R107). -/
def State.AssertRefused (s : State B P) : Prop :=
  s.ph = .assert ∧ s.build.errTyping = .bare ∧ ∃ p sa, s.selAnswers = .fail p :: sa

theorem State.AssertRefused.advance {s : State B P} (h : s.AssertRefused) :
    advance s = .refused .bareAssertFailure := by
  obtain ⟨hp, he, p, sa, ha⟩ := h
  rw [advance_assert s _ sa hp ha]
  exact answerSelActive_fail_bare (s.setSelAnswers sa) p he

/-- The cases are all there are. -/
theorem moves_or_refused (s : State B P) : (∃ t, Moves s t) ∨ s.AssertRefused := by
  cases hp : s.ph with
  | idle => exact .inl ⟨s, .waits (State.waits_of_idle hp)⟩
  | assert =>
    cases ha : s.selAnswers with
    | nil => exact .inl ⟨s, .waits (by simp only [State.Waits, hp, ha])⟩
    | cons a sa =>
      cases a with
      | ok => exact .inl ⟨_, .asserted sa hp ha⟩
      | fail p =>
        cases he : s.build.errTyping with
        | typed => exact .inl ⟨_, .assertFailed p sa hp ha he⟩
        | bare => exact .inr ⟨hp, he, p, sa, ha⟩
  | xfer =>
    cases ha : s.busAnswers with
    | nil => exact .inl ⟨s, .waits (by simp only [State.Waits, hp, ha])⟩
    | cons a ba =>
      cases a with
      | ok rx => exact .inl ⟨_, .transferred rx ba hp ha⟩
      | fail c =>
        cases hx : s.build.xfailDeassert with
        | false => exact .inl ⟨_, .transferAborted c ba hp ha hx⟩
        | true => exact .inl ⟨_, .transferFailed c ba hp ha hx⟩
  | deassert =>
    cases ha : s.selAnswers with
    | nil => exact .inl ⟨s, .waits (by simp only [State.Waits, hp, ha])⟩
    | cons a sa =>
      cases a with
      | ok => exact .inl ⟨_, .released sa hp ha⟩
      | fail p => exact .inl ⟨_, .releaseFailed p sa hp ha⟩

theorem advance_next_iff {s t : State B P} : advance s = .next t ↔ Moves s t := by
  refine ⟨fun h => ?_, Moves.advance⟩
  obtain ⟨u, hu⟩ | hr := moves_or_refused s
  · rw [hu.advance] at h; cases h; exact hu
  · rw [hr.advance] at h; cases h

end Moves

end Sys2Proof.Machine

/-! The transient registers stay well formed, and `PH` moves along the listed edges (10_state.md R22, R26). -/

namespace Sys2Proof.Machine

section WellFormed

variable {B P : Type}

/-- In `IDLE` only the latch is spoken of. -/
theorem State.Wf.of_idle {s : State B P} (hp : s.ph = .idle) (hl : onDevice s.build.variant s.chl = true) : s.Wf := by
  constructor <;> simp [hp, hl]

theorem State.Wf.setRequests {s : State B P} (rs : List HostRequest) (h : s.Wf) : (s.setRequests rs).Wf := by
  obtain ⟨hl, hap, hxp, hxf, hxs, hds, hdp⟩ := h
  exact ⟨hl, hap, hxp, hxf, hxs, hds, hdp⟩

theorem Moves.keeps_wf {s t : State B P} (hw : s.Wf) (h : Moves s t) : t.Wf := by
  have hl := hw.latch_on_device
  cases h with
  | waits _ => exact hw
  | asserted sa hp ha =>
    have hperr := hw.assert_perr hp
    constructor <;> simp [hl, hperr]
  | transferred rx ba hp ha =>
    have hperr := hw.xfer_perr hp
    have hsel := hw.xfer_active hp
    constructor <;> simp [hl, hperr, hsel]
  | transferFailed c ba hp ha hx =>
    have hsel := hw.xfer_active hp
    constructor <;> simp [hl, hx, hsel]
  | assertFailed | transferAborted | released | releaseFailed => exact .of_idle rfl hl

theorem advance_keeps_wf {s t : State B P} (hw : s.Wf) (h : advance s = .next t) : t.Wf :=
  (advance_next_iff.mp h).keeps_wf hw

/-- Acceptance latches an address of the device and clears `PERR` (41_channel_read_protocol.md R86). -/
theorem accept_wf {s : State B P} {a : Address} (ha : onDevice s.build.variant a = true) : (accept a s).Wf := by
  constructor <;> simp [accept, ha]

theorem execOf_keeps_wf {i : Instr} {s t : State B P} (hw : s.Wf) (h : execOf i s = .next t) : t.Wf := by
  obtain ⟨_, he⟩ | ⟨_, _, he⟩ | ⟨hv, _, he⟩ := execOf_cases i s
  · rw [he] at h; cases h
  · rw [he] at h; cases h; exact hw
  · have haccept : (accept i.address s).Wf := accept_wf (hv ▸ i.address_onDevice)
    exact advances_keeps State.Wf (fun _ _ => advance_keeps_wf) 3 _ t haccept (he.symm.trans h)

theorem newBlock_wf {s t : State B P} (hp : s.ph = .idle) (h : newBlock s = .next t) : t.Wf := by
  rw [newBlock_idle s hp] at h
  cases h
  exact .of_idle hp (addressOf_onDevice _ _)

theorem stepOf_keeps_wf {s t : State B P} (hw : s.Wf) (h : stepOf s = .next t) : t.Wf := by
  obtain hadv | ⟨rest, _, hp, hnew⟩ | ⟨i, _, rest, _, _, _, hrun⟩ := present_next_cases execOf s t h
  · exact advance_keeps_wf hw hadv
  · exact newBlock_wf (s := s.setRequests rest) hp hnew
  · exact execOf_keeps_wf (hw.setRequests rest) hrun

theorem State.construct_wf (b : Build) : (State.construct b B P).Wf := by
  refine .of_idle rfl ?_
  cases h : b.variant <;> simp [State.construct, h, onDevice, Variant.channels]

end WellFormed

/-- Settles O45: each thing a step can do keeps `State.Wf`. -/
theorem stepKeepsWellFormed : Obligations.StepKeepsWellFormed := by
  intro s t hw h
  rw [step_eq_stepOf] at h
  exact stepOf_keeps_wf hw h

/-- A constructed block has no event and no response, so it has the history of no read. -/
theorem State.construct_history (b : Build) : History (State.construct b) :=
  ⟨[], [], nofun, rfl, rfl, rfl⟩

/-- Settles O2. -/
theorem resetMeetsTheInvariants : Obligations.ResetMeetsTheInvariants :=
  fun b => ⟨State.construct_wf b, State.construct_history b⟩

/-- Settles O1: `State.construct` writes each field (10_state.md R33). -/
theorem resetLeavesStatedValues : Obligations.ResetLeavesStatedValues :=
  ⟨fun _ => ⟨rfl, rfl, rfl, rfl, rfl, rfl, rfl, rfl⟩, Build.default, rfl⟩

/-- Settles O3: `MODE` is of a type with one value. -/
theorem modeIsHardwired : Obligations.ModeIsHardwired := by
  intro s
  cases s.mode
  exact ⟨rfl, rfl⟩

/-- A transition that does something adds the event of the edge it follows. -/
theorem Moves.follows_edge {s t : State} (h : Moves s t) :
    t = s ∨ ∃ e, t.trace = s.trace ++ [e] ∧ PhaseEdge s.build s.ph e t.ph := by
  cases h with
  | waits _ => exact .inl rfl
  | asserted _ hp | assertFailed _ _ hp | transferred _ _ hp | released _ hp | releaseFailed _ _ hp =>
    exact .inr ⟨_, rfl, by simp [PhaseEdge, hp]⟩
  | transferAborted _ _ hp _ hx | transferFailed _ _ hp _ hx =>
    exact .inr ⟨_, rfl, by simp [PhaseEdge, hp, hx]⟩

/-- Settles O41: a transition follows an edge, and acceptance puts `PH` at `ASSERT`. -/
theorem phaseMovesOnlyAsListed : Obligations.PhaseMovesOnlyAsListed := by
  refine ⟨fun s t h => (advance_next_iff.mp h).follows_edge, fun i s t h => ?_⟩
  obtain ⟨_, he⟩ | ⟨_, _, he⟩ | ⟨_, hp, he⟩ := exec_cases i s
  · rw [he] at h; cases h
  · rw [he] at h; cases h; exact .inl rfl
  · exact .inr ⟨hp, accept i.address s, rfl, rfl, he.symm.trans h⟩

end Sys2Proof.Machine

/-! What a read leaves unchanged (10_state.md R20, R22, R23, R28). -/

namespace Sys2Proof.Machine

section Frame

variable {B P : Type}

/-- What no transition changes, and what it only takes from or adds to at one end. -/
structure Extends (s t : State B P) : Prop where
  build : t.build = s.build
  mode : t.mode = s.mode
  requests : t.requests = s.requests
  chl : t.chl = s.chl
  selAnswers : t.selAnswers <:+ s.selAnswers
  busAnswers : t.busAnswers <:+ s.busAnswers
  trace : s.trace <+: t.trace
  responses : s.responses <+: t.responses

theorem Extends.refl (s : State B P) : Extends s s :=
  ⟨rfl, rfl, rfl, rfl, List.suffix_rfl, List.suffix_rfl, List.prefix_rfl, List.prefix_rfl⟩

theorem Extends.trans {s t u : State B P} (h : Extends s t) (k : Extends t u) : Extends s u where
  build := k.build.trans h.build
  mode := k.mode.trans h.mode
  requests := k.requests.trans h.requests
  chl := k.chl.trans h.chl
  selAnswers := k.selAnswers.trans h.selAnswers
  busAnswers := k.busAnswers.trans h.busAnswers
  trace := h.trace.trans k.trace
  responses := h.responses.trans k.responses

theorem Moves.extends {s t : State B P} (h : Moves s t) : Extends s t := by
  cases h with
  | waits _ => exact .refl s
  | asserted _ _ ha | assertFailed _ _ _ ha | transferred _ _ _ ha | transferAborted _ _ _ ha
  | transferFailed _ _ _ ha | released _ _ ha | releaseFailed _ _ _ ha =>
    constructor <;> simp [ha]

theorem advances_extends {n : Nat} {s t : State B P} (h : advances n s = .next t) : Extends s t :=
  advances_keeps (Extends s) (fun _ _ hu hadv => hu.trans (advance_next_iff.mp hadv).extends) n s t (.refl s) h

/-- In a read that began at `s` and has got to `u` with the events `es`: `TB` is written only after `SelActive`
answered `Ok` (R89, R93), and `SEL` only with an event. -/
structure WritesWithEvents (s u : State B P) (es : List (Event B P)) : Prop where
  trace : u.trace = s.trace ++ es
  tb : .selActive .ok ∉ es → u.tb = s.tb ∧ (u.ph = .assert ∨ u.ph = .idle)
  sel : es = [] → u.sel = s.sel

theorem WritesWithEvents.add {s u v : State B P} {es : List (Event B P)} {e : Event B P}
    (hs : WritesWithEvents s u es) (htrace : v.trace = u.trace ++ [e])
    (htb : .selActive .ok ∉ es ++ [e] → v.tb = s.tb ∧ (v.ph = .assert ∨ v.ph = .idle)) :
    ∃ es', WritesWithEvents s v es' :=
  ⟨es ++ [e], by rw [htrace, hs.trace, List.append_assoc], htb, by simp⟩

theorem Moves.writesWithEvents {s u v : State B P} {es : List (Event B P)} (hs : WritesWithEvents s u es)
    (h : Moves u v) : ∃ es', WritesWithEvents s v es' := by
  cases h with
  | waits _ => exact ⟨es, hs⟩
  | asserted => exact hs.add rfl (by simp)
  | assertFailed => exact hs.add rfl fun hno => ⟨(hs.tb (by simpa using hno)).1, .inr rfl⟩
  | transferred _ _ hp | transferAborted _ _ hp | transferFailed _ _ hp | released _ hp | releaseFailed _ _ hp =>
    have hok : .selActive .ok ∈ es := by
      by_contra hno
      simpa [hp] using (hs.tb hno).2
    exact hs.add rfl fun hno => absurd (List.mem_append_left _ hok) hno

theorem advances_writesWithEvents {n : Nat} {s t : State B P} (hp : s.ph = .assert) (h : advances n s = .next t) :
    ∃ es, WritesWithEvents s t es :=
  advances_keeps (∃ es, WritesWithEvents s · es)
    (fun _ _ ⟨_, hu⟩ hadv => (advance_next_iff.mp hadv).writesWithEvents hu) n s t
    ⟨[], (List.append_nil _).symm, fun _ => ⟨rfl, .inl hp⟩, fun _ => rfl⟩ h

end Frame

/-- Settles O32: acceptance writes `CHL`, `PERR` and `PH` only, and the transitions that follow extend what it left. -/
theorem readFrame : Obligations.ReadFrame := by
  intro i s t h
  obtain ⟨_, he⟩ | ⟨_, hp, he⟩ | ⟨_, hp, he⟩ := exec_cases i s
  · rw [he] at h; cases h
  · rw [he] at h
    cases h
    obtain ⟨hb, hm, hr, _, hsa, hba, htr, hre⟩ := Extends.refl s
    exact ⟨hb, hm, hr, hsa, hba, htr, hre, fun hidle => absurd hidle hp, fun _ => rfl, fun _ => rfl, fun _ => rfl⟩
  · have hrun : advances 3 (accept i.address s) = .next t := he.symm.trans h
    obtain ⟨hb, hm, hr, hc, hsa, hba, htr, hre⟩ := advances_extends hrun
    obtain ⟨es, htrace, htb, hsel⟩ := advances_writesWithEvents rfl hrun
    have hes : t.trace = s.trace ++ es := htrace
    refine ⟨hb, hm, hr, hsa, hba, htr, hre, fun _ => hc, fun hbusy => absurd hp hbusy, fun hno => ?_, fun hsame => ?_⟩
    · exact (htb (by simpa [hes] using hno)).1
    · exact hsel (by simpa [hes] using hsame)

end Sys2Proof.Machine

/-! A read whose answers arrive while it waits has the outcome of the read whose answers are all there
(10_state.md R21, 41_channel_read_protocol.md R106). -/

namespace Sys2Proof.Machine

/-- An instruction of the device, presented to an idle block, is accepted (41_channel_read_protocol.md R85). -/
theorem exec_accepts {i : Instr} {s : State} (hw : i.wf s.build.variant = true) (hp : s.ph = .idle) :
    exec i s = advances 3 (accept i.address s) := by
  rw [exec_eq_readChannel, (Instr.wf_iff _ i).mp hw, readChannel_accepts s _ hp]

/-! ### What the host presents has no part in a transition -/

section Requests

variable {B P : Type} (rs : List HostRequest)

theorem Moves.setRequests {s t : State B P} (h : Moves s t) : Moves (s.setRequests rs) (t.setRequests rs) := by
  cases h with
  | waits hw => exact .waits hw
  | asserted sa hp ha => exact .asserted sa hp ha
  | assertFailed p sa hp ha he => exact .assertFailed p sa hp ha he
  | transferred rx ba hp ha => exact .transferred rx ba hp ha
  | transferAborted c ba hp ha hx => exact .transferAborted c ba hp ha hx
  | transferFailed c ba hp ha hx => exact .transferFailed c ba hp ha hx
  | released sa hp ha => exact .released sa hp ha
  | releaseFailed p sa hp ha => exact .releaseFailed p sa hp ha

theorem advances_setRequests (n : Nat) (s : State B P) :
    advances n (s.setRequests rs) = (advances n s).onNext (State.setRequests rs) := by
  induction n generalizing s with
  | zero => rfl
  | succ n ih =>
    obtain ⟨t, ht⟩ | (hr : s.AssertRefused) := moves_or_refused s
    · rw [advances_succ n s t ht.advance, advances_succ n _ _ (ht.setRequests rs).advance, ih]
    · have hr' : (s.setRequests rs).AssertRefused := hr
      rw [advances_refused n s _ hr.advance, advances_refused n _ _ hr'.advance, Result.onNext_refused]

end Requests

/-! ### How many transitions a read still needs -/

/-- The calls a read still has to make, at most (41_channel_read_protocol.md R99). -/
@[simp] def Phase.callsLeft : Phase → Nat
  | .assert => 3
  | .xfer => 2
  | .deassert => 1
  | .idle => 0

theorem Phase.eq_idle_of_callsLeft : ∀ {p : Phase}, p.callsLeft = 0 → p = .idle
  | .idle, _ => rfl

@[simp] theorem State.arrive_ph (m : Arrivals) (s : State) : (s.arrive m).ph = s.ph := rfl

/-- A transition that does not wait makes a call, and answers that arrive behind the one it takes stay where they
are. -/
theorem Moves.waits_or_calls {s t : State} (h : Moves s t) :
    (s.Waits ∧ t = s) ∨
    (t.ph.callsLeft < s.ph.callsLeft ∧ ∀ m, Moves (s.arrive m) (t.arrive m)) := by
  cases h with
  | waits hw => exact .inl ⟨hw, rfl⟩
  | asserted sa hp ha =>
    exact .inr ⟨by simp [hp], fun m => .asserted (sa ++ m.sel) hp (by simp [State.arrive, ha])⟩
  | assertFailed p sa hp ha he =>
    exact .inr ⟨by simp [hp],
      fun m => .assertFailed p (sa ++ m.sel) hp (by simp [State.arrive, ha]) he⟩
  | transferred rx ba hp ha =>
    exact .inr ⟨by simp [hp], fun m => .transferred rx (ba ++ m.bus) hp (by simp [State.arrive, ha])⟩
  | transferAborted c ba hp ha hx =>
    exact .inr ⟨by simp [hp],
      fun m => .transferAborted c (ba ++ m.bus) hp (by simp [State.arrive, ha]) hx⟩
  | transferFailed c ba hp ha hx =>
    exact .inr ⟨by simp [hp],
      fun m => .transferFailed c (ba ++ m.bus) hp (by simp [State.arrive, ha]) hx⟩
  | released sa hp ha =>
    exact .inr ⟨by simp [hp], fun m => .released (sa ++ m.sel) hp (by simp [State.arrive, ha])⟩
  | releaseFailed p sa hp ha =>
    exact .inr ⟨by simp [hp], fun m => .releaseFailed p (sa ++ m.sel) hp (by simp [State.arrive, ha])⟩

theorem Moves.callsLeft_le {s t : State} (h : Moves s t) : t.ph.callsLeft ≤ s.ph.callsLeft := by
  obtain ⟨_, rfl⟩ | ⟨hlt, _⟩ := h.waits_or_calls
  · exact Nat.le_refl _
  · exact Nat.le_of_lt hlt

theorem State.AssertRefused.arrive {s : State} (h : s.AssertRefused) (m : Arrivals) : (s.arrive m).AssertRefused := by
  obtain ⟨hp, he, p, sa, ha⟩ := h
  exact ⟨hp, he, p, sa ++ m.sel, by simp [State.arrive, ha]⟩

/-- After as many transitions as there are calls left, one more changes nothing. -/
theorem advances_enough {n : Nat} {s : State} (hn : s.ph.callsLeft ≤ n) : advances (n + 1) s = advances n s := by
  induction n generalizing s with
  | zero => exact advances_idle 1 s (Phase.eq_idle_of_callsLeft (Nat.le_zero.mp hn))
  | succ n ih =>
    obtain ⟨t, ht⟩ | hr := moves_or_refused s
    · obtain ⟨hw, _⟩ | ⟨hlt, _⟩ := ht.waits_or_calls
      · rw [advances_fixed _ s (advance_of_waits hw), advances_fixed _ s (advance_of_waits hw)]
      · rw [advances_succ _ s t ht.advance, advances_succ _ s t ht.advance, ih (by omega)]
    · rw [advances_refused _ s _ hr.advance, advances_refused _ s _ hr.advance]

/-- With enough transitions to come it makes no difference whether answers arrive before a transition or after it. -/
theorem Moves.advances_arrive {n : Nat} {s t : State} (h : Moves s t) (hn : s.ph.callsLeft ≤ n) (m : Arrivals) :
    advances n (s.arrive m) = advances n (t.arrive m) := by
  obtain ⟨_, rfl⟩ | ⟨hlt, harrive⟩ := h.waits_or_calls
  · rfl
  · obtain ⟨k, rfl⟩ : ∃ k, n = k + 1 := ⟨n - 1, by omega⟩
    have hk : (t.arrive m).ph.callsLeft ≤ k := by
      rw [State.arrive_ph]
      omega
    rw [advances_succ k _ _ (harrive m).advance, advances_enough hk]

/-! ### The run with arrivals -/

@[simp] theorem State.arrive_nothing (s : State) : s.arrive .nothing = s := by
  simp [State.arrive, Arrivals.nothing]

theorem State.arrive_arrive (s : State) (m m' : Arrivals) :
    (s.arrive m).arrive m' = s.arrive ⟨m.sel ++ m'.sel, m.bus ++ m'.bus⟩ := by
  simp [State.arrive]

theorem runWithArrivals_next {m : Arrivals} {s t : State} (ms : List Arrivals) (hr : s.requests = [])
    (h : advance (s.arrive m) = .next t) : runWithArrivals (m :: ms) s = runWithArrivals ms t := by
  simp only [runWithArrivals, step_nothing_presented (s.arrive m) hr, h]

theorem runWithArrivals_refused {m : Arrivals} {s : State} {r : Refusal} (ms : List Arrivals) (hr : s.requests = [])
    (h : advance (s.arrive m) = .refused r) : runWithArrivals (m :: ms) s = .refused r := by
  simp only [runWithArrivals, step_nothing_presented (s.arrive m) hr, h]

/-- Steps with nothing presented and nothing arriving are transitions. -/
theorem runWithArrivals_nothing {n : Nat} {s : State} (hr : s.requests = []) :
    runWithArrivals (List.replicate n .nothing) s = advances n s := by
  induction n generalizing s with
  | zero => rfl
  | succ n ih =>
    rw [List.replicate_succ]
    obtain ⟨t, ht⟩ | href := moves_or_refused s
    · rw [runWithArrivals_next _ hr (by simpa using ht.advance), ih (ht.extends.requests.trans hr),
        advances_succ n s t ht.advance]
    · rw [runWithArrivals_refused _ hr (by simpa using href.advance), advances_refused n s _ href.advance]

/-- The answers of several batches, as one. -/
def Arrivals.total (ms : List Arrivals) : Arrivals := ⟨ms.flatMap (·.sel), ms.flatMap (·.bus)⟩

theorem State.arrive_total_cons (s : State) (m : Arrivals) (ms : List Arrivals) :
    s.arrive (.total (m :: ms)) = (s.arrive m).arrive (.total ms) := by
  simp [State.arrive_arrive, Arrivals.total]

/-- However the answers are batched, the run ends as if they had all been there at once. -/
theorem runWithArrivals_eq_advances {n : Nat} (ms : List Arrivals) {s : State} (hr : s.requests = [])
    (hn : s.ph.callsLeft ≤ n) :
    runWithArrivals (ms ++ List.replicate n .nothing) s = advances n (s.arrive (.total ms)) := by
  induction ms generalizing s with
  | nil =>
    have hnone : s.arrive (.total []) = s := State.arrive_nothing s
    rw [hnone, List.nil_append, runWithArrivals_nothing hr]
  | cons m ms ih =>
    rw [List.cons_append, State.arrive_total_cons]
    obtain ⟨t, ht⟩ | href := moves_or_refused (s.arrive m)
    · rw [runWithArrivals_next _ hr ht.advance, ih (ht.extends.requests.trans hr) (ht.callsLeft_le.trans hn),
        ht.advances_arrive hn]
    · obtain ⟨k, rfl⟩ : ∃ k, n = k + 1 := by
        have hassert : s.ph = .assert := href.1
        exact ⟨n - 1, by simp only [hassert, Phase.callsLeft] at hn; omega⟩
      rw [runWithArrivals_refused _ hr href.advance, advances_refused k _ _ (href.arrive _).advance]

/-- `s` before any answer has come, with nothing presented. -/
def State.unanswered (s : State) : State := { s with selAnswers := [], busAnswers := [], requests := [] }

theorem accept_unanswered_waits (a : Address) (s : State) : (accept a s.unanswered).Waits := by
  simp [State.Waits, accept_eq, State.unanswered]

/-- With the answers of `s` that come later, acceptance before any answer is acceptance in `s`. -/
theorem accept_unanswered_arrive (a : Address) (s : State) :
    (accept a s.unanswered).arrive ⟨s.selAnswers, s.busAnswers⟩ = (accept a s).setRequests [] := rfl

/-- Settles O44: a read accepted with no answer waits at `ASSERT` with three calls to make; there the batches count as
one arrival, which gives it the answers of `s`. -/
theorem lateAnswersGiveTheSameRead : Obligations.LateAnswersGiveTheSameRead := by
  intro i s ms hw hp hsel hbus
  have hall : Arrivals.total ms = ⟨s.selAnswers, s.busAnswers⟩ := by rw [Arrivals.total, hsel, hbus]
  refine ⟨accept i.address s.unanswered, ?_, ?_⟩
  · have hexec := exec_accepts (s := s.unanswered) hw hp
    exact hexec.trans (advances_fixed 3 _ (advance_of_waits (accept_unanswered_waits _ s)))
  · calc runWithArrivals (ms ++ List.replicate 3 .nothing) (accept i.address s.unanswered)
      _ = advances 3 ((accept i.address s.unanswered).arrive (.total ms)) :=
        runWithArrivals_eq_advances ms rfl (Nat.le_refl 3)
      _ = Result.onNext (State.setRequests []) (advances 3 (accept i.address s)) := by
        rw [hall, accept_unanswered_arrive, advances_setRequests]
      _ = Result.onNext (State.setRequests []) (exec i s) := by rw [exec_accepts hw hp]

end Sys2Proof.Machine

/-! A read depends on nothing an earlier read left (10_state.md R20). -/

namespace Sys2Proof.Machine

section Stateless

variable {B P : Type}

/-- The answers of the select-line controller that a read can still take (20_memory.md R46). -/
@[simp] def Phase.selCallsLeft : Phase → Nat
  | .assert => 2
  | .xfer => 1
  | .deassert => 1
  | .idle => 0

/-- The answers of the bus transport that a read can still take (20_memory.md R46). -/
@[simp] def Phase.busCallsLeft : Phase → Nat
  | .assert => 1
  | .xfer => 1
  | .deassert => 0
  | .idle => 0

/-- Two blocks in the same read, which agree in all the rest of that read can depend on. -/
structure Alike (s t : State B P) : Prop where
  build : s.build = t.build
  ph : s.ph = t.ph
  chl : s.chl = t.chl
  perr : s.perr = t.perr
  draws : s.draws = t.draws
  selAnswers : s.selAnswers.take s.ph.selCallsLeft = t.selAnswers.take s.ph.selCallsLeft
  busAnswers : s.busAnswers.take s.ph.busCallsLeft = t.busAnswers.take s.ph.busCallsLeft
  tb : s.ph = .xfer ∨ s.ph = .deassert → s.tb = t.tb
  sel : s.ph = .xfer → s.sel = t.sel

/-- From `s` to `s'` and from `t` to `t'` the same events and responses were added; `SEL` agrees at the end when it did
before or a call was answered, and `TB` when it did before or a transfer was made. -/
structure SameEffect (s t s' t' : State B P) (es : List (Event B P)) (rs : List (Response B P)) : Prop where
  trace_left : s'.trace = s.trace ++ es
  trace_right : t'.trace = t.trace ++ es
  responses_left : s'.responses = s.responses ++ rs
  responses_right : t'.responses = t.responses ++ rs
  tb : (s.tb = t.tb ∨ ∃ f a, .xfer f a ∈ es) → s'.tb = t'.tb
  sel : (s.sel = t.sel ∨ es ≠ []) → s'.sel = t'.sel

theorem SameEffect.none (s t : State B P) : SameEffect s t s t [] [] := by
  constructor <;> simp

theorem SameEffect.trans {s t s' t' s'' t'' : State B P} {es es' : List (Event B P)} {rs rs' : List (Response B P)}
    (h : SameEffect s t s' t' es rs) (k : SameEffect s' t' s'' t'' es' rs') :
    SameEffect s t s'' t'' (es ++ es') (rs ++ rs') where
  trace_left := by rw [k.trace_left, h.trace_left, List.append_assoc]
  trace_right := by rw [k.trace_right, h.trace_right, List.append_assoc]
  responses_left := by rw [k.responses_left, h.responses_left, List.append_assoc]
  responses_right := by rw [k.responses_right, h.responses_right, List.append_assoc]
  tb := by
    rintro (htb | ⟨f, a, hmem⟩)
    · exact k.tb (.inl (h.tb (.inl htb)))
    · obtain hmem | hmem := List.mem_append.mp hmem
      · exact k.tb (.inl (h.tb (.inr ⟨f, a, hmem⟩)))
      · exact k.tb (.inr ⟨f, a, hmem⟩)
  sel := by
    rintro (hsel | hne)
    · exact k.sel (.inl (h.sel (.inl hsel)))
    · by_cases hes : es = []
      · exact k.sel (.inr (by simpa [hes] using hne))
      · exact k.sel (.inl (h.sel (.inr hes)))

/-- Lists that agree in a first part that is not empty have the same head, and their tails agree in the rest of it. -/
theorem eq_cons_of_take_eq {α : Type} {a : α} {l m : List α} {k : Nat} (h : (a :: l).take (k + 1) = m.take (k + 1)) :
    ∃ m', m = a :: m' ∧ l.take k = m'.take k := by
  cases m with
  | nil => simp at h
  | cons b m' =>
    obtain ⟨rfl, htail⟩ : a = b ∧ l.take k = m'.take k := by simpa using h
    exact ⟨m', rfl, htail⟩

theorem Alike.sel_cons {s t : State B P} (h : Alike s t) {k : Nat} (hk : s.ph.selCallsLeft = k + 1)
    {a : SelAnswer P} {sa : List (SelAnswer P)} (ha : s.selAnswers = a :: sa) :
    ∃ sa', t.selAnswers = a :: sa' ∧ sa.take k = sa'.take k := by
  have htake := h.selAnswers
  rw [ha, hk] at htake
  exact eq_cons_of_take_eq htake

theorem Alike.bus_cons {s t : State B P} (h : Alike s t) {k : Nat} (hk : s.ph.busCallsLeft = k + 1)
    {a : BusAnswer B} {ba : List (BusAnswer B)} (ha : s.busAnswers = a :: ba) :
    ∃ ba', t.busAnswers = a :: ba' ∧ ba.take k = ba'.take k := by
  have htake := h.busAnswers
  rw [ha, hk] at htake
  exact eq_cons_of_take_eq htake

theorem Alike.waits {s t : State B P} (h : Alike s t) (hw : s.Waits) : t.Waits := by
  have hsel := h.selAnswers
  have hbus := h.busAnswers
  rw [State.Waits, ← h.ph]
  cases hp : s.ph <;> simp_all [State.Waits]

theorem Alike.assertRefused {s t : State B P} (h : Alike s t) (hr : s.AssertRefused) : t.AssertRefused := by
  obtain ⟨hp, he, p, sa, ha⟩ := hr
  obtain ⟨sa', ha', _⟩ := h.sel_cons (k := 1) (by simp [hp]) ha
  exact ⟨h.ph ▸ hp, h.build ▸ he, p, sa', ha'⟩

/-- Two blocks that are alike make the same transition. -/
theorem Alike.moves {s t s' : State B P} (h : Alike s t) (hm : Moves s s') :
    ∃ t' es rs, Moves t t' ∧ Alike s' t' ∧ SameEffect s t s' t' es rs := by
  have hph := h.ph
  have hbuild := h.build
  cases hm with
  | waits hw => exact ⟨t, [], [], .waits (h.waits hw), h, .none s t⟩
  | asserted sa hp ha =>
    obtain ⟨sa', ha', htake⟩ := h.sel_cons (k := 1) (by simp [hp]) ha
    have hbus : s.busAnswers.take 1 = t.busAnswers.take 1 := by simpa [hp] using h.busAnswers
    refine ⟨_, [.selActive .ok], [], .asserted sa' (hph ▸ hp) ha', ?_, ?_⟩
    · constructor <;> simp [h.build, h.chl, h.perr, h.draws, htake, hbus]
    · constructor <;> simp [h.chl, h.draws]
  | assertFailed p sa hp ha he =>
    obtain ⟨sa', ha', _⟩ := h.sel_cons (k := 1) (by simp [hp]) ha
    refine ⟨_, [.selActive (.fail p)], [.err (.pin p)], .assertFailed p sa' (hph ▸ hp) ha' (hbuild ▸ he), ?_, ?_⟩
    · constructor <;> simp [h.build, h.chl, h.perr, h.draws]
    · constructor <;> simp [h.draws]
  | transferred rx ba hp ha =>
    obtain ⟨ba', ha', _⟩ := h.bus_cons (k := 0) (by simp [hp]) ha
    have htb := h.tb (.inl hp)
    have hsel : s.selAnswers.take 1 = t.selAnswers.take 1 := by simpa [hp] using h.selAnswers
    refine ⟨_, [.xfer s.tb (.ok rx)], [], .transferred rx ba' (hph ▸ hp) ha', ?_, ?_⟩
    · constructor <;> simp [h.build, h.chl, h.perr, h.draws, hsel]
    · constructor <;> simp [htb, h.sel hp]
  | transferAborted c ba hp ha hx =>
    obtain ⟨ba', ha', _⟩ := h.bus_cons (k := 0) (by simp [hp]) ha
    have htb := h.tb (.inl hp)
    refine ⟨_, [.xfer s.tb (.fail c)], [.err (.comm c)], .transferAborted c ba' (hph ▸ hp) ha' (hbuild ▸ hx), ?_, ?_⟩
    · constructor <;> simp [h.build, h.chl, h.perr, h.draws]
    · constructor <;> simp [htb, h.draws, h.sel hp]
  | transferFailed c ba hp ha hx =>
    obtain ⟨ba', ha', _⟩ := h.bus_cons (k := 0) (by simp [hp]) ha
    have htb := h.tb (.inl hp)
    have hsel : s.selAnswers.take 1 = t.selAnswers.take 1 := by simpa [hp] using h.selAnswers
    refine ⟨_, [.xfer s.tb (.fail c)], [], .transferFailed c ba' (hph ▸ hp) ha' (hbuild ▸ hx), ?_, ?_⟩
    · constructor <;> simp [h.build, h.chl, h.draws, hsel]
    · constructor <;> simp [htb, h.draws, h.sel hp]
  | released sa hp ha =>
    obtain ⟨sa', ha', _⟩ := h.sel_cons (k := 0) (by simp [hp]) ha
    have htb := h.tb (.inr hp)
    refine ⟨_, [.selInactive .ok], [responseAfterDeassert s.perr s.tb], .released sa' (hph ▸ hp) ha', ?_, ?_⟩
    · constructor <;> simp [h.build, h.chl, h.perr, h.draws]
    · constructor <;> simp [htb, h.perr]
  | releaseFailed p sa hp ha =>
    obtain ⟨sa', ha', _⟩ := h.sel_cons (k := 0) (by simp [hp]) ha
    have htb := h.tb (.inr hp)
    let r := responseAfterFailedDeassert s.build s.perr s.tb p (Config.freeReportsFirst (s.draws + 1))
    refine ⟨_, [.selInactive (.fail p)], [r], .releaseFailed p sa' (hph ▸ hp) ha', ?_, ?_⟩
    · constructor <;> simp [h.build, h.chl, h.perr, h.draws]
    · constructor <;> simp [r, htb, h.build, h.perr, h.draws]

/-- Two blocks that are alike go on alike, or are refused alike. -/
theorem Alike.advances {n : Nat} {s t : State B P} (h : Alike s t) :
    (∃ s' t' es rs, advances n s = .next s' ∧ advances n t = .next t' ∧ Alike s' t' ∧ SameEffect s t s' t' es rs) ∨
    ∃ r, advances n s = .refused r ∧ advances n t = .refused r := by
  induction n generalizing s t with
  | zero => exact .inl ⟨s, t, [], [], rfl, rfl, h, .none s t⟩
  | succ n ih =>
    obtain ⟨s₁, hs⟩ | hr := moves_or_refused s
    · obtain ⟨t₁, es, rs, ht, halike, heffect⟩ := h.moves hs
      rw [advances_succ n s s₁ hs.advance, advances_succ n t t₁ ht.advance]
      obtain ⟨s', t', es', rs', hs', ht', halike', heffect'⟩ | hrefused := ih halike
      · exact .inl ⟨s', t', _, _, hs', ht', halike', heffect.trans heffect'⟩
      · exact .inr hrefused
    · exact .inr ⟨_, advances_refused n s _ hr.advance, advances_refused n t _ (h.assertRefused hr).advance⟩

end Stateless

/-- Acceptance makes two blocks with the same inputs alike: it writes `CHL` and `PERR` (41_channel_read_protocol.md
R86), and `TB` and `SEL` play no part before they are written. -/
theorem SameInputs.accept_alike {s t : State} (h : SameInputs s t) (a : Address) : Alike (accept a s) (accept a t) where
  build := h.build
  ph := rfl
  chl := rfl
  perr := rfl
  draws := h.draws
  selAnswers := h.selAnswers
  busAnswers := h.busAnswers
  tb := nofun
  sel := nofun

/-- Settles O31: the two reads are alike from acceptance on. -/
theorem readIsStateless : Obligations.ReadIsStateless := by
  intro i s t h
  obtain ⟨hv, he⟩ | ⟨_, hbusy, _⟩ | ⟨hv, _, he⟩ := exec_cases i s
  · obtain ⟨_, he'⟩ | ⟨hv', _⟩ | ⟨hv', _⟩ := exec_cases i t
    · exact .inr ⟨_, he, he'⟩
    · exact absurd (h.build ▸ hv') hv
    · exact absurd (h.build ▸ hv') hv
  · exact absurd h.idle_left hbusy
  · have he' : exec i t = advances 3 (accept i.address t) :=
      exec_accepts ((Instr.wf_iff _ i).mpr (h.build ▸ hv.symm)) h.idle_right
    rw [he, he']
    obtain ⟨s', t', es, rs, hs', ht', halike, heffect⟩ | hrefused := (h.accept_alike i.address).advances (n := 3)
    · exact .inl ⟨s', t', es, rs, hs', ht', heffect.trace_left, heffect.trace_right, heffect.responses_left,
        heffect.responses_right, halike.ph, halike.chl, halike.perr,
        fun f a hmem => heffect.tb (.inr ⟨f, a, hmem⟩), fun hne => heffect.sel (.inr hne)⟩
    · exact .inr hrefused

end Sys2Proof.Machine

/-! The history of one block: complete reads of the listed traces with one response each, then the events of the read in
progress (20_memory.md R46, R49, R50; 41_channel_read_protocol.md R101). -/

namespace Sys2Proof.Machine

/-! ### The frame sent, and the response that ends a read, as R101's table writes them -/

theorem isFrameOf_outFrame (a : Address) (u : Byte) : IsFrameOf a (outFrame a u) :=
  ⟨rfl, commandByte_toNat a⟩

/-- In `XFER` the buffer holds the frame of the latched address. -/
theorem State.Wf.isFrameOf_tb {s : State} (hw : s.Wf) (hp : s.ph = .xfer) : IsFrameOf s.chl s.tb := by
  obtain ⟨u, hf⟩ := hw.xfer_frame hp
  exact hf ▸ isFrameOf_outFrame s.chl u

theorem responseAfterFailedDeassert_typed {b : Build} (he : b.errTyping = .typed) (rx : Frame) (p : PinErr)
    (first : Bool) : (responseAfterFailedDeassert b none rx p first : Response) = .err (.pin p) := by
  simp only [responseAfterFailedDeassert, he]

theorem responseAfterFailedDeassert_bare {b : Build} (he : b.errTyping = .bare) (rx : Frame) (p : PinErr)
    (first : Bool) : (responseAfterFailedDeassert b none rx p first : Response) = .ok (decodeResult rx) := by
  simp only [responseAfterFailedDeassert, he]

theorem isDoubleFaultResponse_responseAfterFailedDeassert (b : Build) (c : BusErr) (rx : Frame) (p : PinErr)
    (first : Bool) : IsDoubleFaultResponse b c p (responseAfterFailedDeassert b (some c) rx p first) := by
  cases he : b.errTyping with
  | bare => simp [IsDoubleFaultResponse, responseAfterFailedDeassert, he]
  | typed =>
    cases hd : b.doubleFault with
    | first | second => simp [IsDoubleFaultResponse, responseAfterFailedDeassert, doubleFaultResponse, he, hd]
    | either => cases first <;> simp [IsDoubleFaultResponse, responseAfterFailedDeassert, doubleFaultResponse, he, hd]

/-! ### The read in progress, phase by phase -/

section InProgress

variable {s : State} {es : List Event}

theorem inProgress_idle (hp : s.ph = .idle) : InProgress s es ↔ es = [] := by
  simp only [InProgress, hp]

theorem inProgress_assert (hp : s.ph = .assert) : InProgress s es ↔ es = [] := by
  simp only [InProgress, hp]

theorem inProgress_xfer (hp : s.ph = .xfer) : InProgress s es ↔ es = [.selActive .ok] := by
  simp only [InProgress, hp]

theorem inProgress_deassert_ok (hp : s.ph = .deassert) (he : s.perr = none) :
    InProgress s es ↔ ∃ tx, IsFrameOf s.chl tx ∧ es = [.selActive .ok, .xfer tx (.ok s.tb)] := by
  simp only [InProgress, hp, he]

theorem inProgress_deassert_fail {c : BusErr} (hp : s.ph = .deassert) (he : s.perr = some c) :
    InProgress s es ↔ ∃ tx, IsFrameOf s.chl tx ∧ es = [.selActive .ok, .xfer tx (.fail c)] := by
  simp only [InProgress, hp, he]

end InProgress

/-- In `DEASSERT` the answer `Ok` completes a listed read: T1 or T4 of R101. -/
theorem InProgress.isRead_released {s : State} {es : List Event} (hi : InProgress s es) (hw : s.Wf)
    (hp : s.ph = .deassert) :
    IsRead s.build s.chl (es ++ [.selInactive .ok]) (responseAfterDeassert s.perr s.tb) .inactive := by
  cases he : s.perr with
  | none =>
    obtain ⟨tx, hf, rfl⟩ := (inProgress_deassert_ok hp he).mp hi
    exact ⟨hf, rfl, rfl⟩
  | some c =>
    obtain ⟨tx, hf, rfl⟩ := (inProgress_deassert_fail hp he).mp hi
    exact ⟨hf, hw.deassert_perr hp (by simp [he]), rfl, rfl⟩

/-- In `DEASSERT` a failing answer completes a listed read: T6 or T5 of R101. -/
theorem InProgress.isRead_releaseFailed {s : State} {es : List Event} (hi : InProgress s es) (hw : s.Wf)
    (hp : s.ph = .deassert) (p : PinErr) (first : Bool) (l : Level) :
    IsRead s.build s.chl (es ++ [.selInactive (.fail p)])
      (responseAfterFailedDeassert s.build s.perr s.tb p first) l := by
  cases he : s.perr with
  | none =>
    obtain ⟨tx, hf, rfl⟩ := (inProgress_deassert_ok hp he).mp hi
    exact ⟨hf, fun ht => responseAfterFailedDeassert_typed ht _ _ _,
      fun hb => responseAfterFailedDeassert_bare hb _ _ _⟩
  | some c =>
    obtain ⟨tx, hf, rfl⟩ := (inProgress_deassert_fail hp he).mp hi
    exact ⟨hf, hw.deassert_perr hp (by simp [he]), isDoubleFaultResponse_responseAfterFailedDeassert _ c _ p first⟩

/-! ### One transition of a read -/

/-- A transition adds the event `e`, and the read whose events were `now` goes on with it. -/
structure GoesOn (s t : State) (now : List Event) (e : Event) : Prop where
  trace : t.trace = s.trace ++ [e]
  responses : t.responses = s.responses
  busy : t.ph ≠ .idle
  inProgress : InProgress t (now ++ [e])

/-- A transition adds the event `e` and the response `r`, which complete a listed read of the latched address. -/
structure Completes (s t : State) (now : List Event) (e : Event) (r : Response) : Prop where
  trace : t.trace = s.trace ++ [e]
  responses : t.responses = s.responses ++ [r]
  idle : t.ph = .idle
  isRead : IsRead s.build s.chl (now ++ [e]) r t.sel

/-- Everything one transition does to the read in progress. -/
theorem Moves.read_cases {s t : State} {now : List Event} (h : Moves s t) (hw : s.Wf) (hi : InProgress s now) :
    t = s ∨ (∃ e, GoesOn s t now e) ∨ ∃ e r, Completes s t now e r := by
  cases h with
  | waits _ => exact .inl rfl
  | asserted sa hp ha =>
    obtain rfl := (inProgress_assert hp).mp hi
    exact .inr (.inl ⟨_, rfl, rfl, nofun, rfl⟩)
  | assertFailed p sa hp ha he =>
    obtain rfl := (inProgress_assert hp).mp hi
    exact .inr (.inr ⟨_, _, rfl, rfl, rfl, he, rfl⟩)
  | transferred rx ba hp ha =>
    obtain rfl := (inProgress_xfer hp).mp hi
    exact .inr (.inl ⟨_, rfl, rfl, nofun,
      (inProgress_deassert_ok (by rfl) (by exact hw.xfer_perr hp)).mpr ⟨s.tb, hw.isFrameOf_tb hp, rfl⟩⟩)
  | transferAborted c ba hp ha hx =>
    obtain rfl := (inProgress_xfer hp).mp hi
    exact .inr (.inr ⟨_, _, rfl, rfl, rfl, hw.isFrameOf_tb hp, hx, rfl, hw.xfer_active hp⟩)
  | transferFailed c ba hp ha hx =>
    obtain rfl := (inProgress_xfer hp).mp hi
    exact .inr (.inl ⟨_, rfl, rfl, nofun,
      (inProgress_deassert_fail (by rfl) (by rfl)).mpr ⟨s.tb, hw.isFrameOf_tb hp, rfl⟩⟩)
  | released sa hp ha => exact .inr (.inr ⟨_, _, rfl, rfl, rfl, hi.isRead_released hw hp⟩)
  | releaseFailed p sa hp ha => exact .inr (.inr ⟨_, _, rfl, rfl, rfl, hi.isRead_releaseFailed hw hp p _ _⟩)

/-! ### The history -/

theorem Moves.keeps_history {s t : State} (h : Moves s t) (hw : s.Wf) (hh : History s) : History t := by
  obtain ⟨reads, now, hreads, hi, htrace, hresponses⟩ := hh
  have hbuild := h.extends.build
  obtain rfl | ⟨e, hgo⟩ | ⟨e, r, hend⟩ := h.read_cases hw hi
  · exact ⟨reads, now, hreads, hi, htrace, hresponses⟩
  · exact ⟨reads, now ++ [e], hbuild ▸ hreads, hgo.inProgress, by simp [hgo.trace, htrace],
      hgo.responses.trans hresponses⟩
  · refine ⟨reads ++ [(now ++ [e], r)], [], ?_, (inProgress_idle hend.idle).mpr rfl, ?_, ?_⟩
    · rw [hbuild]
      intro x hx
      obtain hx | hx := List.mem_append.mp hx
      · exact hreads x hx
      · obtain rfl := List.mem_singleton.mp hx
        exact ⟨s.chl, t.sel, hw.latch_on_device, hend.isRead⟩
    · simp [hend.trace, htrace]
    · simp [hend.responses, hresponses]

theorem advances_keeps_history {n : Nat} {s t : State} (hw : s.Wf) (hh : History s) (h : advances n s = .next t) :
    History t :=
  (advances_keeps (fun u => u.Wf ∧ History u)
    (fun _ _ ⟨hwf, hhist⟩ hadv =>
      ⟨advance_keeps_wf hwf hadv, (advance_next_iff.mp hadv).keeps_history hwf hhist⟩) n s t ⟨hw, hh⟩ h).2

/-- What the host presents has no part in the history. -/
theorem History.setRequests {s : State} (rs : List HostRequest) (h : History s) : History (s.setRequests rs) := h

/-- Acceptance in `IDLE` begins a read with no event. -/
theorem History.accept {s : State} (a : Address) (hp : s.ph = .idle) (h : History s) : History (accept a s) := by
  obtain ⟨reads, now, hreads, hi, htrace, hresponses⟩ := h
  obtain rfl := (inProgress_idle hp).mp hi
  exact ⟨reads, [], hreads, rfl, htrace, hresponses⟩

theorem exec_keeps_history {i : Instr} {s t : State} (hh : History s) (h : exec i s = .next t) : History t := by
  obtain ⟨_, he⟩ | ⟨_, _, he⟩ | ⟨hv, hp, he⟩ := exec_cases i s
  · rw [he] at h; cases h
  · rw [he] at h; cases h; exact hh
  · exact advances_keeps_history (accept_wf (hv ▸ i.address_onDevice)) (hh.accept i.address hp) (he.symm.trans h)

/-- A reset leaves an empty trace, the history of no read (70_reset_and_hazards.md R160). -/
theorem newBlock_history {s t : State} (hp : s.ph = .idle) (h : newBlock s = .next t) : History t := by
  rw [newBlock_idle s hp] at h
  cases h
  exact ⟨[], [], nofun, (inProgress_idle (by exact hp)).mpr rfl, rfl, rfl⟩

/-- Settles O46: each thing a step can do keeps the history. -/
theorem stepKeepsHistory : Obligations.StepKeepsHistory := by
  intro s t hw hh h
  obtain hadv | ⟨rest, _, hp, hnew⟩ | ⟨i, _, rest, _, _, _, hrun⟩ := step_next_cases s t h
  · exact (advance_next_iff.mp hadv).keeps_history hw hh
  · exact newBlock_history (s := s.setRequests rest) hp hnew
  · exact exec_keeps_history (hh.setRequests rest) hrun

/-- Settles O34: a transition and a read only add, and the reset is not presented. -/
theorem traceOnlyGrows : Obligations.TraceOnlyGrows := by
  intro s t hn h
  obtain hadv | ⟨rest, hr, _, _⟩ | ⟨i, _, rest, _, _, _, hrun⟩ := step_next_cases s t h
  · have hext := (advance_next_iff.mp hadv).extends
    exact ⟨hext.trace, hext.responses⟩
  · exact absurd (by rw [hr]; rfl) hn
  · obtain ⟨_, _, _, _, _, htrace, hresponses, _⟩ := readFrame i (s.setRequests rest) t hrun
    exact ⟨htrace, hresponses⟩

/-! ### One read, from its acceptance on -/

/-- A read that was accepted at `s` has got to `t` with the events `es`: it is in progress, or has ended with a listed
trace and its one response. -/
structure ReadSoFar (s t : State) (es : List Event) : Prop where
  trace : t.trace = s.trace ++ es
  running_or_ended : (t.ph ≠ .idle ∧ t.responses = s.responses ∧ InProgress t es) ∨
    (t.ph = .idle ∧ ∃ r, t.responses = s.responses ++ [r] ∧ IsRead s.build s.chl es r t.sel)

theorem Moves.keeps_readSoFar {s t u : State} {es : List Event} (h : Moves t u) (hw : t.Wf) (hext : Extends s t)
    (hs : ReadSoFar s t es) : ∃ es', ReadSoFar s u es' := by
  have ⟨htrace, hstate⟩ := hs
  obtain ⟨_, hresponses, hi⟩ | ⟨hp, _⟩ := hstate
  · obtain rfl | ⟨e, hgo⟩ | ⟨e, r, hend⟩ := h.read_cases hw hi
    · exact ⟨es, hs⟩
    · exact ⟨es ++ [e], by simp [hgo.trace, htrace],
        .inl ⟨hgo.busy, hgo.responses.trans hresponses, hgo.inProgress⟩⟩
    · have hread := hend.isRead
      rw [hext.build, hext.chl] at hread
      exact ⟨es ++ [e], by simp [hend.trace, htrace],
        .inr ⟨hend.idle, r, by rw [hend.responses, hresponses], hread⟩⟩
  · have hstays : t = u := by simpa [advance_idle t hp] using h.advance
    exact ⟨es, hstays ▸ hs⟩

theorem advances_readSoFar {n : Nat} {s t : State} (hw : s.Wf) (hp : s.ph = .assert) (h : advances n s = .next t) :
    ∃ es, ReadSoFar s t es := by
  have hstart : ReadSoFar s s [] :=
    ⟨(List.append_nil _).symm, .inl ⟨by simp [hp], rfl, (inProgress_assert hp).mpr rfl⟩⟩
  exact (advances_keeps (fun u => u.Wf ∧ Extends s u ∧ ∃ es, ReadSoFar s u es)
    (fun _ _ ⟨hwf, hext, _, hs⟩ hadv =>
      have hm := advance_next_iff.mp hadv
      ⟨advance_keeps_wf hwf hadv, hext.trans hm.extends, hm.keeps_readSoFar hwf hext hs⟩)
    n s t ⟨hw, .refl s, [], hstart⟩ h).2.2

/-- What an instruction presented to an idle block does to the trace and the responses. -/
theorem exec_readSoFar {i : Instr} {s t : State} (hp : s.ph = .idle) (h : exec i s = .next t) :
    ∃ es, ReadSoFar (accept i.address s) t es := by
  obtain ⟨_, he⟩ | ⟨_, hbusy, _⟩ | ⟨hv, _, he⟩ := exec_cases i s
  · rw [he] at h; cases h
  · exact absurd hp hbusy
  · exact advances_readSoFar (accept_wf (hv ▸ i.address_onDevice)) rfl (he.symm.trans h)

/-! ### The calls of one read, counted -/

/-- At most one of each call, and after a failed `SelActive` none of the other two (20_memory.md R46). -/
structure AtMostOneEach (es : List Event) : Prop where
  selActive : selActiveCount es ≤ 1
  xfer : xferCount es ≤ 1
  selInactive : selInactiveCount es ≤ 1
  failedAssert : ∀ p, .selActive (.fail p) ∈ es → xferCount es = 0 ∧ selInactiveCount es = 0

theorem AtMostOneEach.nil : AtMostOneEach [] := by
  constructor <;> simp [selActiveCount, xferCount, selInactiveCount]

/-- The calls of a listed read: a failed assert alone, or an assert, a transfer and perhaps a deassert. -/
theorem IsRead.events {b : Build} {a : Address} {es : List Event} {r : Response} {l : Level} (h : IsRead b a es r l) :
    (∃ p, es = [.selActive (.fail p)]) ∨ (∃ tx x, es = [.selActive .ok, .xfer tx x]) ∨
      ∃ tx x z, es = [.selActive .ok, .xfer tx x, .selInactive z] := by
  unfold IsRead at h
  split at h
  case h_2 => exact .inl ⟨_, rfl⟩
  case h_3 => exact .inr (.inl ⟨_, _, rfl⟩)
  case h_7 => exact h.elim
  all_goals exact .inr (.inr ⟨_, _, _, rfl⟩)

theorem IsRead.atMostOneEach {b : Build} {a : Address} {es : List Event} {r : Response} {l : Level}
    (h : IsRead b a es r l) : AtMostOneEach es := by
  obtain ⟨p, rfl⟩ | ⟨tx, x, rfl⟩ | ⟨tx, x, z, rfl⟩ := h.events <;>
    (constructor <;> simp [selActiveCount, xferCount, selInactiveCount])

/-- A listed read whose line was asserted made its one transfer. -/
theorem IsRead.xferCount_eq_one {b : Build} {a : Address} {es : List Event} {r : Response} {l : Level}
    (h : IsRead b a es r l) (hok : .selActive .ok ∈ es) : xferCount es = 1 := by
  obtain ⟨p, rfl⟩ | ⟨tx, x, rfl⟩ | ⟨tx, x, z, rfl⟩ := h.events
  · simp at hok
  · rfl
  · rfl

theorem InProgress.atMostOneEach {s : State} {es : List Event} (h : InProgress s es) : AtMostOneEach es := by
  cases hp : s.ph with
  | idle => exact (inProgress_idle hp).mp h ▸ .nil
  | assert => exact (inProgress_assert hp).mp h ▸ .nil
  | xfer =>
    obtain rfl := (inProgress_xfer hp).mp h
    constructor <;> simp [selActiveCount, xferCount, selInactiveCount]
  | deassert =>
    obtain ⟨tx, a, rfl⟩ : ∃ tx a, es = [.selActive .ok, .xfer tx a] := by
      cases he : s.perr with
      | none => obtain ⟨tx, _, rfl⟩ := (inProgress_deassert_ok hp he).mp h; exact ⟨tx, _, rfl⟩
      | some c => obtain ⟨tx, _, rfl⟩ := (inProgress_deassert_fail hp he).mp h; exact ⟨tx, _, rfl⟩
    constructor <;> simp [selActiveCount, xferCount, selInactiveCount]

/-- Settles O35: the events of a read in progress, and those of each listed read, hold the calls so counted. -/
theorem atMostOneOfEachCall : Obligations.AtMostOneOfEachCall := by
  intro i s t hp h
  obtain ⟨es, htrace, ⟨hbusy, _, hi⟩ | ⟨_, r, _, hread⟩⟩ := exec_readSoFar hp h
  · obtain ⟨hsel, hxfer, hdes, hfail⟩ := hi.atMostOneEach
    exact ⟨es, htrace, hsel, hxfer, hdes, fun hidle => absurd hidle hbusy, hfail⟩
  · obtain ⟨hsel, hxfer, hdes, hfail⟩ := hread.atMostOneEach
    exact ⟨es, htrace, hsel, hxfer, hdes, fun _ hok => hread.xferCount_eq_one hok, hfail⟩

end Sys2Proof.Machine

/-! A frame's fields, its word and its row: the decoder and the table of spec/opcode_table.json agree
(30_encoding.md R61 to R69). -/

namespace Sys2Proof

/-! ### The two defined bytes, field by field -/

/-- Byte 0 by `LEAD` and `START` (30_encoding.md R63). -/
theorem eq_startByte_iff (x : Byte) : x = startByte ↔ x.extractLsb' 1 7 = 0 ∧ x.getLsbD 0 = true := by
  revert x
  decide

theorem commandByte_sgl (a : Address) : (commandByte a).getLsbD 7 = true := by
  revert a
  decide

theorem commandByte_pad (a : Address) : (commandByte a).extractLsb' 0 4 = 0 := by
  revert a
  decide

/-- `SGL` and `PAD` leave only `ADDR` open. -/
theorem eq_commandByte_of_sgl_pad (x : Byte) (hsgl : x.getLsbD 7 = true) (hpad : x.extractLsb' 0 4 = 0) :
    x = commandByte (x.extractLsb' 4 3) := by
  revert x
  decide

/-- Byte 1 by `SGL`, `PAD` and `ADDR` (30_encoding.md R62). -/
theorem eq_commandByte_iff (x : Byte) (a : Address) :
    x = commandByte a ↔ x.getLsbD 7 = true ∧ x.extractLsb' 0 4 = 0 ∧ x.extractLsb' 4 3 = a := by
  constructor
  · rintro rfl
    exact ⟨commandByte_sgl a, commandByte_pad a, commandByte_address a⟩
  · rintro ⟨hsgl, hpad, rfl⟩
    exact eq_commandByte_of_sgl_pad x hsgl hpad

/-- A frame is one an instruction emits when its two defined bytes are. -/
theorem eq_encode_iff (f : Frame) (i : Instr) :
    f = encode i f.b2 ↔ f.b0 = startByte ∧ f.b1 = commandByte i.address := by
  obtain ⟨x, y, z⟩ := f
  simp [encode, outFrame]

/-! ### The decoder -/

/-- The decoder answers an instruction for exactly the frames that a device which has it emits for it: each field that
rejects a frame is one in which the frame differs from them. -/
theorem decodeFrame_eq_ok_iff (v : Variant) (f : Frame) (i : Instr) :
    decodeFrame v f = .ok i ↔ i.variant = v ∧ f = encode i f.b2 := by
  rw [eq_encode_iff, eq_startByte_iff, eq_commandByte_iff, decodeFrame]
  split_ifs with hlead hstart hsgl hpad
  · exact ⟨nofun, fun ⟨_, ⟨h, _⟩, _⟩ => absurd h hlead⟩
  · exact ⟨nofun, fun ⟨_, ⟨_, h⟩, _⟩ => absurd hstart (ne_false_of_eq_true h)⟩
  · exact ⟨nofun, fun ⟨_, _, h, _⟩ => absurd hsgl (ne_false_of_eq_true h)⟩
  · exact ⟨nofun, fun ⟨_, _, _, h, _⟩ => absurd h hpad⟩
  · rw [ne_eq, not_not] at hlead hpad
    rw [Bool.not_eq_false] at hstart hsgl
    rw [instrAt_iff, eq_comm (a := i.address)]
    simp only [hlead, hstart, hsgl, hpad, true_and]

/-- Settles O6: an encoded instruction is one of the frames its device emits for it. -/
theorem encodedInstructionDecodesBack : Obligations.EncodedInstructionDecodesBack :=
  fun i _ => ⟨(decodeFrame_eq_ok_iff _ _ i).mpr ⟨rfl, rfl⟩, (Machine.Instr.wf_iff _ i).mpr rfl⟩

/-! ### The table -/

/-- The 24-bit numbering of a frame loses nothing (30_encoding.md R61). -/
@[simp] theorem wordFrame_frameWord (f : Frame) : wordFrame (frameWord f) = f := by
  have h0 : (frameWord f).extractLsb' 16 8 = f.b0 :=
    (BitVec.extractLsb'_append_eq_of_le (xhi := f.b0 ++ f.b1) (by decide)).trans BitVec.extractLsb'_append_eq_left
  have h1 : (frameWord f).extractLsb' 8 8 = f.b1 :=
    (BitVec.extractLsb'_append_eq_of_le (xhi := f.b0 ++ f.b1) (by decide)).trans BitVec.extractLsb'_append_eq_right
  have h2 : (frameWord f).extractLsb' 0 8 = f.b2 := BitVec.extractLsb'_append_eq_right
  rw [wordFrame, h0, h1, h2]

theorem frameWord_inj {f g : Frame} : frameWord f = frameWord g ↔ f = g :=
  (Function.LeftInverse.injective wordFrame_frameWord).eq_iff

/-- The mask clears the undefined byte and nothing else (30_encoding.md R64). -/
theorem frameWord_and_tableMask (f : Frame) : frameWord f &&& tableMask = frameWord { f with b2 := 0 } := by
  have hbytes (x y z : Byte) :
      (x ++ y ++ z) &&& (BitVec.allOnes 8 ++ BitVec.allOnes 8 ++ 0#8) = x ++ y ++ 0#8 := by
    rw [BitVec.and_append, BitVec.and_append, BitVec.and_allOnes, BitVec.and_allOnes, BitVec.and_zero]
  exact hbytes f.b0 f.b1 f.b2

/-- A row's `match` is the word its instruction emits with zero in the undefined byte. -/
theorem tableMatch_eq_frameWord (i : Instr) : tableMatch i = frameWord (encode i 0) := by
  cases i <;> rfl

/-- A word is of an instruction's row when its frame is one the instruction emits. -/
theorem frameWord_in_row_iff (f : Frame) (i : Instr) :
    frameWord f &&& tableMask = tableMatch i ↔ f = encode i f.b2 := by
  rw [frameWord_and_tableMask, tableMatch_eq_frameWord, frameWord_inj]
  obtain ⟨x, y, z⟩ := f
  simp [encode, outFrame]

/-- Settles O7: decoder and table both say which frames are those the instruction emits. -/
theorem decoderAcceptsExactlyTheTable : Obligations.DecoderAcceptsExactlyTheTable := by
  intro v f i
  rw [decode_frameBytes, decodeFrame_eq_ok_iff, frameWord_in_row_iff, Machine.Instr.wf_iff]

/-! ### Written frames -/

/-- Settles O4: each frame is evaluated. -/
theorem writtenWordsDecode : Obligations.WrittenWordsDecode := by
  refine ⟨?_, ?_, ?_, ?_, ?_, ?_, ?_, ?_⟩ <;> decide

/-- Settles O5: the fields of `startByte` and `commandByte`. -/
theorem outboundBytesBitByBit : Obligations.OutboundBytesBitByBit := by
  intro a u
  obtain ⟨hlead, hstart⟩ := (eq_startByte_iff startByte).mp rfl
  exact ⟨rfl, hlead, hstart, rfl, commandByte_sgl a, commandByte_address a, commandByte_pad a, rfl⟩

end Sys2Proof

/-! The result takes ten bits of the response (30_encoding.md R66, R67). -/

namespace Sys2Proof.Machine

theorem responseWord_eq_append (rx : Frame) : responseWord rx = rx.b1 ++ rx.b2 :=
  (BitVec.setWidth_append_eq_shiftLeft_setWidth_or (w'' := 16)).symm.trans (BitVec.setWidth_eq _)

theorem byte_and_three (x : Byte) : x &&& 0x03#8 = (x.extractLsb' 0 2).setWidth 8 := by
  revert x
  decide

/-- The mask keeps `rx[1][1:0]` and `rx[2]`. -/
theorem decodeResult_eq_setWidth (rx : Frame) :
    decodeResult rx = (rx.b1.extractLsb' 0 2 ++ rx.b2).setWidth 16 :=
  calc decodeResult rx = (rx.b1 ++ rx.b2) &&& (0x03#8 ++ BitVec.allOnes 8) := by
        rw [decodeResult, responseWord_eq_append]; rfl
    _ = (rx.b1.extractLsb' 0 2).setWidth 8 ++ rx.b2 := by
        rw [BitVec.and_append, BitVec.and_allOnes, byte_and_three]
    _ = (rx.b1.extractLsb' 0 2 ++ rx.b2).setWidth (8 + 8) := (BitVec.setWidth_append_of_eq rfl).symm

theorem decodeResult_toNat (rx : Frame) :
    (decodeResult rx).toNat = (rx.b1.toNat % 4) * 256 + rx.b2.toNat := by
  rw [decodeResult_eq_setWidth, BitVec.toNat_setWidth_of_le (by decide), BitVec.toNat_append,
    ← Nat.shiftLeft_add_eq_or_of_lt rx.b2.isLt, Nat.shiftLeft_eq, BitVec.extractLsb'_toNat]
  rfl

/-- Bits 15:10 are above everything the mask keeps. -/
theorem decodeResult_high_bits (rx : Frame) : (decodeResult rx).extractLsb' 10 6 = 0 := by
  have hb2 := rx.b2.isLt
  have hshift : (decodeResult rx).toNat >>> 10 = 0 := by
    rw [decodeResult_toNat, Nat.shiftRight_eq_div_pow]
    omega
  apply BitVec.eq_of_toNat_eq
  rw [BitVec.extractLsb'_toNat, hshift]
  rfl

/-- Responses that agree in the ten bits have one result. -/
theorem decodeResult_congr {rx rx' : Frame} (h1 : rx.b1.extractLsb' 0 2 = rx'.b1.extractLsb' 0 2)
    (h2 : rx.b2 = rx'.b2) : decodeResult rx = decodeResult rx' := by
  rw [decodeResult_eq_setWidth, decodeResult_eq_setWidth, h1, h2]

/-- Settles O8: the formula is the definition; the forms and the bits are the lemmas above. -/
theorem resultAssembledFromResponse : Obligations.ResultAssembledFromResponse :=
  fun rx => ⟨rfl, decodeResult_eq_setWidth rx, decodeResult_toNat rx, decodeResult_high_bits rx⟩

end Sys2Proof.Machine

/-! What is run and what is refused of the things the host can present (30_encoding.md R68 to R70). -/

namespace Sys2Proof.Machine

/-- Settles O11: what `present` does with a read and with a frame. -/
theorem stepRunsThePresentedInstruction : Obligations.StepRunsThePresentedInstruction :=
  fun s i rest hp => ⟨step_read s i rest hp, fun f => step_frame s f i rest hp⟩

/-- Settles O12: what `present` does with a frame that the decoder rejects. -/
theorem foreignFrameIsRefused : Obligations.ForeignFrameIsRefused := present_foreign exec

/-- Settles O13: an instruction is a read on its own device. -/
theorem otherDevicesInstructionIsRefused : Obligations.OtherDevicesInstructionIsRefused := by
  intro i s hw
  have hv : s.build.variant ≠ i.variant := fun he =>
    absurd hw (ne_false_of_eq_true ((Instr.wf_iff _ i).mpr he.symm))
  rw [exec_eq_readChannel, readChannel_other _ s _ hv]

end Sys2Proof.Machine

/-! A read whose calls are all answered ends (41_channel_read_protocol.md R106, decision D24). -/

namespace Sys2Proof.Machine

section Answered

variable {B P : Type}

/-- There is an answer for every call the read can still make. -/
structure State.Answered (s : State B P) : Prop where
  sel : s.ph.selCallsLeft ≤ s.selAnswers.length
  bus : s.ph.busCallsLeft ≤ s.busAnswers.length

/-- No call of an answered read waits. -/
theorem State.Answered.idle_of_waits {s : State B P} (h : s.Answered) (hw : s.Waits) : s.ph = .idle := by
  obtain ⟨hsel, hbus⟩ := h
  cases hp : s.ph <;> simp only [State.Waits, hp] at hw
  case idle => rfl
  case xfer => simp [hp, hw] at hbus
  all_goals simp [hp, hw] at hsel

/-- A transition takes the answer of the one call it makes. -/
theorem Moves.keeps_answered {s t : State B P} (h : Moves s t) (ha : s.Answered) : t.Answered := by
  obtain ⟨hsel, hbus⟩ := ha
  cases h with
  | waits _ => exact ⟨hsel, hbus⟩
  | asserted sa hp hsa =>
    rw [hp, hsa] at hsel
    rw [hp] at hbus
    exact ⟨Nat.le_of_succ_le_succ hsel, hbus⟩
  | transferred _ _ hp | transferFailed _ _ hp =>
    rw [hp] at hsel
    exact ⟨hsel, Nat.zero_le _⟩
  | assertFailed | transferAborted | released | releaseFailed => exact ⟨Nat.zero_le _, Nat.zero_le _⟩

end Answered

/-- As many transitions as there are calls left end an answered read, unless the assert is refused. -/
theorem State.Answered.advances_ends {n : Nat} {s : State} (ha : s.Answered) (hn : s.ph.callsLeft ≤ n) :
    (∃ t, advances n s = .next t ∧ t.ph = .idle) ∨
    (s.build.errTyping = .bare ∧ advances n s = .refused .bareAssertFailure) := by
  induction n generalizing s with
  | zero => exact .inl ⟨s, rfl, Phase.eq_idle_of_callsLeft (Nat.le_zero.mp hn)⟩
  | succ n ih =>
    obtain ⟨t, ht⟩ | hr := moves_or_refused s
    · obtain ⟨hw, _⟩ | ⟨hlt, _⟩ := ht.waits_or_calls
      · have hp := ha.idle_of_waits hw
        exact .inl ⟨s, advances_idle _ s hp, hp⟩
      · rw [advances_succ n s t ht.advance, ← ht.extends.build]
        exact ih (ht.keeps_answered ha) (by omega)
    · have ⟨_, hbare, _⟩ := hr
      exact .inr ⟨hbare, advances_refused n s _ hr.advance⟩

/-- Settles O38: the accepted read is answered and has three calls to make; a read that has ended has one response. -/
theorem answeredReadEnds : Obligations.AnsweredReadEnds := by
  intro i s hw hp hsel hbus
  have ha : (accept i.address s).Answered := ⟨hsel, hbus⟩
  have hexec := exec_accepts hw hp
  obtain ⟨t, ht, hidle⟩ | ⟨hbare, hrefused⟩ := ha.advances_ends (n := 3) (Nat.le_refl 3)
  · obtain ⟨_, _, ⟨hbusy, _⟩ | ⟨_, r, hresponses, _⟩⟩ := exec_readSoFar hp (hexec.trans ht)
    · exact absurd hidle hbusy
    · exact .inl ⟨t, r, hexec.trans ht, hidle, hresponses⟩
  · exact .inr ⟨hbare, hexec.trans hrefused⟩

end Sys2Proof.Machine

/-! A read looks at the response bytes through the decode only (30_encoding.md R66). -/

namespace Sys2Proof.Machine

/-- An outcome of a read that has ended: the block is idle and has given the host the responses `rs`. -/
def EndsWith (o : Result) (rs : List Response) : Prop :=
  ∃ t, o = .next t ∧ t.ph = .idle ∧ t.responses = rs

theorem Moves.endsWith {n : Nat} {s t : State} {rs : List Response} (h : Moves s t)
    (ht : EndsWith (advances n t) rs) : EndsWith (advances (n + 1) s) rs := by
  rwa [advances_succ n s t h.advance]

theorem EndsWith.same_end {o o' : Result} {rs : List Response} (h : EndsWith o rs) (h' : EndsWith o' rs) {t : State}
    (ho : o = .next t) : ∃ t', o' = .next t' ∧ t'.responses = t.responses ∧ t'.ph = t.ph := by
  obtain ⟨u, hu, hidle, hresponses⟩ := h
  obtain ⟨t', ht', hidle', hresponses'⟩ := h'
  obtain rfl : u = t := Host.Outcome.next.inj (hu.symm.trans ho)
  exact ⟨t', ht', hresponses'.trans hresponses.symm, hidle'.trans hidle.symm⟩

/-- The response that the answer to `SelInactive()` brings (41_channel_read_protocol.md R95, R96). -/
def responseToRelease (b : Build) (perr : Option BusErr) (tb : Frame) (first : Bool) : SelAnswer → Response
  | .ok => responseAfterDeassert perr tb
  | .fail p => responseAfterFailedDeassert b perr tb p first

theorem responseToRelease_congr {tb tb' : Frame} (h : decodeResult tb = decodeResult tb') (b : Build)
    (perr : Option BusErr) (first : Bool) (z : SelAnswer) :
    responseToRelease b perr tb first z = responseToRelease b perr tb' first z := by
  cases z with
  | ok => cases perr <;> simp [responseToRelease, responseAfterDeassert, h]
  | fail p =>
    cases perr <;> cases he : b.errTyping <;> simp [responseToRelease, responseAfterFailedDeassert, h, he]

/-- In `DEASSERT` an answer ends the read. -/
theorem advance_release_endsWith {s : State} {z : SelAnswer} {sa : List SelAnswer} (hp : s.ph = .deassert)
    (ha : s.selAnswers = z :: sa) :
    EndsWith (advances 1 s)
      (s.responses ++ [responseToRelease s.build s.perr s.tb (Config.freeReportsFirst (s.draws + 1)) z]) := by
  cases z with
  | ok => exact (Moves.released sa hp ha).endsWith ⟨_, rfl, rfl, rfl⟩
  | fail p => exact (Moves.releaseFailed p sa hp ha).endsWith ⟨_, rfl, rfl, rfl⟩

section Exec

variable {i : Instr} {s : State} {p : PinErr} {z : SelAnswer} {rx : Frame} {sa : List SelAnswer} {ba : List BusAnswer}

/-- A read whose transfer succeeds ends as its deassert does. -/
theorem exec_transferred_endsWith (hw : i.wf s.build.variant = true) (hp : s.ph = .idle)
    (hs : s.selAnswers = .ok :: z :: sa) (hb : s.busAnswers = .ok rx :: ba) :
    EndsWith (exec i s)
      (s.responses ++ [responseToRelease s.build none rx (Config.freeReportsFirst (s.draws + 2)) z]) := by
  rw [exec_accepts hw hp]
  refine Moves.endsWith (.asserted (z :: sa) rfl hs) ?_
  refine Moves.endsWith (.transferred rx ba rfl hb) ?_
  exact advance_release_endsWith rfl rfl

/-- A read whose assert fails ends before the transport is called. -/
theorem exec_assertFailed_endsWith (hw : i.wf s.build.variant = true) (hp : s.ph = .idle)
    (hs : s.selAnswers = .fail p :: sa) (he : s.build.errTyping = .typed) :
    EndsWith (exec i s) (s.responses ++ [.err (.pin p)]) := by
  rw [exec_accepts hw hp]
  refine Moves.endsWith (.assertFailed p sa rfl hs he) ?_
  exact ⟨_, advances_idle 2 _ rfl, rfl, rfl⟩

theorem exec_assertFailed_bare (hw : i.wf s.build.variant = true) (hp : s.ph = .idle)
    (hs : s.selAnswers = .fail p :: sa) (he : s.build.errTyping = .bare) :
    exec i s = .refused .bareAssertFailure := by
  have hr : (accept i.address s).AssertRefused := ⟨rfl, he, p, sa, hs⟩
  rw [exec_accepts hw hp, advances_refused 2 _ _ hr.advance]

end Exec

/-- Settles O42: once the line is asserted the response is that of the deassert, which takes from `rx` its result only;
when it is not, the transport is not called. -/
theorem strayResponseBitsAreDiscarded : Obligations.StrayResponseBitsAreDiscarded := by
  intro i s x z rx rx' sa ba t hw hp hs h1 h2 h
  cases x with
  | ok =>
    have hends (r : Frame) :=
      exec_transferred_endsWith (s := { s with busAnswers := .ok r :: ba }) hw hp hs rfl
    have hrx := hends rx
    rw [responseToRelease_congr (decodeResult_congr h1 h2)] at hrx
    exact hrx.same_end (hends rx') h
  | fail p =>
    cases he : s.build.errTyping with
    | typed =>
      have hends (r : Frame) :=
        exec_assertFailed_endsWith (s := { s with busAnswers := .ok r :: ba }) hw hp hs he
      exact (hends rx).same_end (hends rx') h
    | bare =>
      have hrefused := exec_assertFailed_bare (s := { s with busAnswers := .ok rx :: ba }) hw hp hs he
      exact nomatch hrefused.symm.trans h

end Sys2Proof.Machine

/-! A reset presented to an idle block (40_construction.md R80, R83). -/

namespace Sys2Proof.Machine

/-- Settles O39: the step is `newBlock` with the request taken, and the address it draws is one of the device. -/
theorem newResetsAnIdleBlock : Obligations.NewResetsAnIdleBlock := by
  intro s rest hp hr
  refine ⟨addressOf s.build.variant (Config.freeByte s.draws), (s.drawn 1).freeTb.tb, s.draws + 4,
    addressOf_onDevice _ _, ?_⟩
  calc step s
    _ = newBlock (s.setRequests rest) := step_new s rest hr
    _ = _ := newBlock_idle (s.setRequests rest) hp

end Sys2Proof.Machine

/-! The arithmetic of the command byte and of the result (41_channel_read_protocol.md R98, R102). -/

namespace Sys2Proof.Machine

theorem zext_toNat (a : Address) : (a.setWidth 8 : Byte).toNat = a.toNat :=
  BitVec.toNat_setWidth_of_le (by decide)

/-- `SGL` is above every address, so the two do not overlap. -/
theorem sglBit_or_toNat (a : Address) : (sglBit ||| a.setWidth 8).toNat = 8 + a.toNat := by
  revert a
  decide

theorem sglBit_or_high_bits (a : Address) : (sglBit ||| a.setWidth 8).extractLsb' 4 4 = 0 := by
  revert a
  decide

theorem responseWord_toNat (rx : Frame) : (responseWord rx).toNat = 256 * rx.b1.toNat + rx.b2.toNat := by
  rw [responseWord_eq_append, BitVec.toNat_append, ← Nat.shiftLeft_add_eq_or_of_lt rx.b2.isLt, Nat.shiftLeft_eq,
    Nat.mul_comm]

theorem responseWord_high_byte (rx : Frame) : (responseWord rx).extractLsb' 8 8 = rx.b1 := by
  rw [responseWord_eq_append]
  exact BitVec.extractLsb'_append_eq_left

theorem and_resultMask_toNat (w : Container) : (w &&& resultMask).toNat = w.toNat % 1024 :=
  (BitVec.toNat_and w resultMask).trans (Nat.and_two_pow_sub_one_eq_mod w.toNat 10)

theorem decodeResult_le (rx : Frame) : (decodeResult rx).toNat ≤ 1023 := by
  have hb2 := rx.b2.isLt
  rw [decodeResult_toNat]
  omega

theorem decodeResult_and_resultMask (rx : Frame) : decodeResult rx &&& resultMask = decodeResult rx := by
  rw [decodeResult, BitVec.and_assoc, BitVec.and_self]

/-- Settles O10: each clause is the lemma about its operation. -/
theorem arithmeticIsExact : Obligations.ArithmeticIsExact := by
  refine ⟨fun a => ?_, fun x y z => ?_, and_resultMask_toNat, fun rx => ?_⟩
  · have ha := a.isLt
    have hsgl := sglBit_or_toNat a
    have hcommand := commandByte_toNat a
    exact ⟨zext_toNat a, hsgl, sglBit_or_high_bits a, rfl, by omega, by omega, by omega⟩
  · have hy := y.isLt
    have hlow : (responseWord ⟨x, 0, z⟩).toNat = z.toNat := by simp [responseWord_toNat]
    have hhigh : (responseWord ⟨x, y, 0⟩).toNat = 256 * y.toNat := by simp [responseWord_toNat]
    exact ⟨hlow, responseWord_high_byte ⟨x, 0, z⟩, hhigh, by omega, responseWord_toNat ⟨x, y, z⟩⟩
  · have hmod : (decodeResult rx).toNat = (256 * rx.b1.toNat + rx.b2.toNat) % 1024 := by
      rw [decodeResult, and_resultMask_toNat, responseWord_toNat]
    exact ⟨rfl, hmod, (decodeResult_toNat rx).trans (by rw [Nat.mul_comm])⟩

/-- Settles O9: the decode takes ten bits, and a read whose transfer succeeds responds with it. -/
theorem decodeRangeAndTolerance : Obligations.DecodeRangeAndTolerance := by
  refine ⟨fun rx => ⟨decodeResult_le rx, decodeResult_and_resultMask rx⟩, fun _ _ => decodeResult_congr, ?_⟩
  intro i s rx sa ba hw hp hs hb
  obtain ⟨t, ht, _, hresponses⟩ := exec_transferred_endsWith hw hp hs hb
  exact ⟨t, ht, hresponses⟩

end Sys2Proof.Machine

/-! When a command is accepted, and the answer to each call (41_channel_read_protocol.md R85 to R96, R106). -/

namespace Sys2Proof.Machine

/-! ### Acceptance -/

theorem exec_busy {i : Instr} {s : State} (hw : i.wf s.build.variant = true) (hp : s.ph ≠ .idle) :
    exec i s = .next s := by
  rw [exec_eq_readChannel, (Instr.wf_iff _ i).mp hw, readChannel_busy s _ hp]

section Requests

variable {B P : Type}

theorem advance_setRequests (rs : List HostRequest) (s : State B P) :
    advance (s.setRequests rs) = (advance s).onNext (State.setRequests rs) := by
  obtain ⟨t, ht⟩ | (hr : s.AssertRefused) := moves_or_refused s
  · rw [ht.advance, (ht.setRequests rs).advance, Result.onNext_next]
  · have hr' : (s.setRequests rs).AssertRefused := hr
    rw [hr.advance, hr'.advance, Result.onNext_refused]

end Requests

/-- While a read is in progress, what is presented changes nothing but what is presented. -/
theorem step_busy_ignores_request {s : State} (hp : s.ph ≠ .idle) (hn : s.requests.head? ≠ some .new) :
    step s = Result.onNext (State.setRequests s.requests) (step (s.setRequests [])) :=
  calc step s
    _ = advance ((s.setRequests []).setRequests s.requests) := step_busy s hp hn
    _ = Result.onNext (State.setRequests s.requests) (advance (s.setRequests [])) := advance_setRequests _ _
    _ = Result.onNext (State.setRequests s.requests) (step (s.setRequests [])) := by
      rw [step_nothing_presented (s.setRequests []) rfl]

/-- Settles O14: in `IDLE` an instruction is a read from acceptance on; a busy block does not look at a request. -/
theorem commandAcceptedOnlyWhenIdle : Obligations.CommandAcceptedOnlyWhenIdle := by
  refine ⟨fun i s hw => ⟨fun hp => exec_accepts hw hp, fun hp => exec_busy hw hp⟩, fun s q rest hp hr hq => ?_⟩
  exact step_busy_ignores_request hp (by simpa [hr] using hq)

/-- Settles O15: the accepted read waits for the answer to `SelActive()`. -/
theorem acceptanceLatchesTheOperand : Obligations.AcceptanceLatchesTheOperand := by
  intro i s hw hp ha
  have hwaits : (accept i.address s).Waits := ha
  exact (exec_accepts hw hp).trans (advances_fixed 3 _ (advance_of_waits hwaits))

/-! ### The answers -/

/-- A step of a busy block is the transition that is enabled. -/
theorem Moves.step {s t : State} (h : Moves s t) (hn : NoResetPresented s) (hp : s.ph ≠ .idle) :
    step s = .next t :=
  (step_busy s hp hn).trans h.advance

/-- Settles O16: the transitions `asserted` and `assertFailed`, and the refusal. -/
theorem selActiveAnswered : Obligations.SelActiveAnswered := by
  intro s sa hn hp
  have hbusy : s.ph ≠ .idle := by simp [hp]
  refine ⟨fun ha => ⟨_, _, (Moves.asserted sa hp ha).step hn hbusy⟩, fun p ha => ⟨fun he => ?_, fun he => ?_⟩⟩
  · exact ⟨_, _, (Moves.assertFailed p sa hp ha he).step hn hbusy⟩
  · have hrefused : s.AssertRefused := ⟨hp, he, p, sa, ha⟩
    exact (step_busy s hbusy hn).trans hrefused.advance

/-- Settles O17: the transitions `transferred`, `transferAborted` and `transferFailed`. -/
theorem xferAnswered : Obligations.XferAnswered := by
  intro s ba hn hp
  have hbusy : s.ph ≠ .idle := by simp [hp]
  refine ⟨fun hw => ⟨hw.xfer_active hp, hw.xfer_perr hp⟩, fun rx ha => ?_, fun c ha => ⟨fun hx => ?_, fun hx => ?_⟩⟩
  · exact (Moves.transferred rx ba hp ha).step hn hbusy
  · exact ⟨_, _, (Moves.transferAborted c ba hp ha hx).step hn hbusy⟩
  · exact ⟨_, _, (Moves.transferFailed c ba hp ha hx).step hn hbusy⟩

/-- Settles O18: the transitions `released` and `releaseFailed`, with the responses of R95 and R96. -/
theorem selInactiveAnswered : Obligations.SelInactiveAnswered := by
  intro s sa hn hp
  have hbusy : s.ph ≠ .idle := by simp [hp]
  refine ⟨fun ha => ⟨_, (Moves.released sa hp ha).step hn hbusy, fun he => ?_, fun c he => ?_⟩, fun p ha =>
    ⟨_, _, _, (Moves.releaseFailed p sa hp ha).step hn hbusy, fun he ht => ?_, fun he hb => ?_, fun c he => ?_⟩⟩
  · rw [he]; rfl
  · rw [he]; rfl
  · rw [he, responseAfterFailedDeassert_typed ht]
  · rw [he, responseAfterFailedDeassert_bare hb]; rfl
  · have hdouble := isDoubleFaultResponse_responseAfterFailedDeassert s.build c s.tb p
      (Config.freeReportsFirst (s.draws + 1))
    rw [he]
    refine ⟨fun hb => ?_, fun ht => ⟨fun hd => ?_, fun hd => ?_, fun hd => ?_⟩⟩
    · simpa only [IsDoubleFaultResponse, hb] using hdouble
    all_goals simpa only [IsDoubleFaultResponse, ht, hd] using hdouble

/-- Settles O19: with its call unanswered a busy block waits. -/
theorem unansweredCallWaits : Obligations.UnansweredCallWaits := by
  intro s hn
  have hwait (hbusy : s.ph ≠ .idle) (hw : s.Waits) : step s = .next s := (Moves.waits hw).step hn hbusy
  refine ⟨fun hp ha => ?_, fun hp ha => ?_, fun hp ha => ?_⟩ <;>
    exact hwait (by simp [hp]) (by simpa only [State.Waits, hp] using ha)

end Sys2Proof.Machine

/-! The whole reads of 41_channel_read_protocol.md R101, rows T1 to T6, and R100's function. -/

namespace Sys2Proof.Machine

/-! ### The two states a read comes to -/

/-- The state of a read of address `a`, accepted in `s`, that awaits the answer to `SelInactive()`: `es` are its events,
`tb` and `perr` what the transfer left, `sa`, `ba` the answers left. -/
def awaitingRelease (s : State) (a : Address) (es : List Event) (tb : Frame) (perr : Option BusErr)
    (sa : List SelAnswer) (ba : List BusAnswer) (d : Nat) : State :=
  { s with
    ph := .deassert
    chl := a
    tb := tb
    perr := perr
    sel := .active
    trace := s.trace ++ es
    selAnswers := sa
    busAnswers := ba
    draws := d }

/-- The state after a read of address `a` that was accepted in `s`: `es` are its events, `r` its response, `tb`, `perr`
and `l` what the buffer, `PERR` and the line are left at. `afterFailedRead` is this state when `r` is an error. -/
def afterRead (s : State) (a : Address) (es : List Event) (r : Response) (tb : Frame) (perr : Option BusErr) (l : Level)
    (sa : List SelAnswer) (ba : List BusAnswer) (d : Nat) : State :=
  { s with
    ph := .idle
    chl := a
    tb := tb
    perr := perr
    sel := l
    trace := s.trace ++ es
    responses := s.responses ++ [r]
    selAnswers := sa
    busAnswers := ba
    draws := d }

theorem afterRead_err (s : State) (a : Address) (es : List Event) (e : ReadError) (tb : Frame) (perr : Option BusErr)
    (l : Level) (sa : List SelAnswer) (ba : List BusAnswer) (d : Nat) :
    afterRead s a es (.err e) tb perr l sa ba d = afterFailedRead s a es e tb perr l sa ba d := rfl

/-- The level of the line after the answer to `SelInactive()`, where `l` is the one a failed drive leaves (10_state.md
R23). -/
def levelAfterRelease (l : Level) : SelAnswer → Level
  | .ok => .inactive
  | .fail _ => l

/-- The answer to `SelInactive()` ends a read with its event and the response of R95 or R96. -/
theorem awaitingRelease_ends (s : State) (a : Address) (es : List Event) (tb : Frame) (perr : Option BusErr)
    (z : SelAnswer) (sa : List SelAnswer) (ba : List BusAnswer) (d : Nat) :
    ∃ first l d', advances 1 (awaitingRelease s a es tb perr (z :: sa) ba d) =
      .next (afterRead s a (es ++ [.selInactive z]) (responseToRelease s.build perr tb first z) tb perr
        (levelAfterRelease l z) sa ba d') := by
  simp only [afterRead, ← List.append_assoc]
  cases z with
  | ok => exact ⟨false, .inactive, _, advances_succ 0 _ _ (Moves.released sa rfl rfl).advance⟩
  | fail p => exact ⟨_, _, _, advances_succ 0 _ _ (Moves.releaseFailed p sa rfl rfl).advance⟩

theorem Moves.advances_eq {n : Nat} {s t : State} {o : Result} (h : Moves s t) (ho : advances n t = o) :
    advances (n + 1) s = o :=
  (advances_succ n s t h.advance).trans ho

/-! ### From acceptance to the deassert, or to an early end -/

section Exec

variable {i : Instr} {s : State} {c : BusErr} {p : PinErr} {z : SelAnswer} {rx : Frame} {sa : List SelAnswer}
  {ba : List BusAnswer} (hw : i.wf s.build.variant = true) (hp : s.ph = .idle)
include hw hp

/-- A failed assert ends the read (R88). -/
theorem exec_assertFailed (hs : s.selAnswers = .fail p :: sa) (he : s.build.errTyping = .typed) :
    ∃ l d, exec i s = .next
      (afterRead s i.address [.selActive (.fail p)] (.err (.pin p)) s.tb none l sa s.busAnswers d) := by
  rw [exec_accepts hw hp]
  exact ⟨_, _, Moves.advances_eq (.assertFailed p sa rfl hs he) (advances_idle 2 _ rfl)⟩

/-- After a failed transfer with `XFAIL_DEASSERT = false` the read ends (R93). -/
theorem exec_transferAborted (hs : s.selAnswers = .ok :: sa) (hb : s.busAnswers = .fail c :: ba)
    (hx : s.build.xfailDeassert = false) :
    ∃ u f d, exec i s = .next (afterRead s i.address [.selActive .ok, .xfer (outFrame i.address u) (.fail c)]
      (.err (.comm c)) f none .active sa ba d) := by
  rw [exec_accepts hw hp]
  refine ⟨Config.freeByte s.draws, (s.drawn 1).freeTb.tb, s.draws + 4, ?_⟩
  refine Moves.advances_eq (.asserted sa rfl hs) ?_
  refine Moves.advances_eq (.transferAborted c ba rfl hb hx) ((advances_idle 1 _ rfl).trans ?_)
  simp only [List.append_assoc]
  rfl

/-- After a good transfer a read comes to the deassert (R92). -/
theorem exec_transferred (hs : s.selAnswers = .ok :: sa) (hb : s.busAnswers = .ok rx :: ba) :
    ∃ u d, exec i s = advances 1 (awaitingRelease s i.address
      [.selActive .ok, .xfer (outFrame i.address u) (.ok rx)] rx none sa ba d) := by
  rw [exec_accepts hw hp]
  refine ⟨Config.freeByte s.draws, s.draws + 1, ?_⟩
  refine Moves.advances_eq (.asserted sa rfl hs) ?_
  refine Moves.advances_eq (.transferred rx ba rfl hb) ?_
  simp only [List.append_assoc]
  rfl

/-- After a failed transfer with `XFAIL_DEASSERT = true` a read comes to the deassert (R93). -/
theorem exec_transferFailed (hs : s.selAnswers = .ok :: sa) (hb : s.busAnswers = .fail c :: ba)
    (hx : s.build.xfailDeassert = true) :
    ∃ u f d, exec i s = advances 1 (awaitingRelease s i.address
      [.selActive .ok, .xfer (outFrame i.address u) (.fail c)] f (some c) sa ba d) := by
  rw [exec_accepts hw hp]
  refine ⟨Config.freeByte s.draws, (s.drawn 1).freeTb.tb, s.draws + 4, ?_⟩
  refine Moves.advances_eq (.asserted sa rfl hs) ?_
  refine Moves.advances_eq (.transferFailed c ba rfl hb hx) ?_
  simp only [List.append_assoc]
  rfl

/-- A read whose transfer succeeds, to its end: rows T1 and T6. -/
theorem exec_transferred_released (hs : s.selAnswers = .ok :: z :: sa) (hb : s.busAnswers = .ok rx :: ba) :
    ∃ u first l d, exec i s = .next (afterRead s i.address
      [.selActive .ok, .xfer (outFrame i.address u) (.ok rx), .selInactive z]
      (responseToRelease s.build none rx first z) rx none (levelAfterRelease l z) sa ba d) := by
  obtain ⟨u, d, hexec⟩ := exec_transferred hw hp hs hb
  obtain ⟨first, l, d', hend⟩ := awaitingRelease_ends s i.address _ rx none z sa ba d
  exact ⟨u, first, l, d', hexec.trans hend⟩

/-- A read whose transfer fails and whose line is then released, to its end: rows T4 and T5. -/
theorem exec_transferFailed_released (hs : s.selAnswers = .ok :: z :: sa) (hb : s.busAnswers = .fail c :: ba)
    (hx : s.build.xfailDeassert = true) :
    ∃ u f first l d, exec i s = .next (afterRead s i.address
      [.selActive .ok, .xfer (outFrame i.address u) (.fail c), .selInactive z]
      (responseToRelease s.build (some c) f first z) f (some c) (levelAfterRelease l z) sa ba d) := by
  obtain ⟨u, f, d, hexec⟩ := exec_transferFailed hw hp hs hb hx
  obtain ⟨first, l, d', hend⟩ := awaitingRelease_ends s i.address _ f (some c) z sa ba d
  exact ⟨u, f, first, l, d', hexec.trans hend⟩

end Exec

/-! ### The rows -/

/-- Settles O23: row T2. -/
theorem failedAssertEndsTheRead : Obligations.FailedAssertEndsTheRead :=
  fun _ _ _ _ hw hp hs he => exec_assertFailed hw hp hs he

/-- Settles O24: the refusal in place of row T2 (R107). -/
theorem bareFailedAssertIsRefused : Obligations.BareFailedAssertIsRefused :=
  fun _ _ _ _ hw hp hs he => exec_assertFailed_bare hw hp hs he

/-- Settles O25: row T3. -/
theorem failedTransferAbortsAtOnce : Obligations.FailedTransferAbortsAtOnce :=
  fun _ _ _ _ _ hw hp hs hb hx => exec_transferAborted hw hp hs hb hx

/-- Settles O26: the answer `Ok` to the deassert reports the held error. -/
theorem failedTransferReleasesTheLine : Obligations.FailedTransferReleasesTheLine := by
  intro i s c sa ba hw hp hs hb hx
  obtain ⟨u, f, _, _, d, hexec⟩ := exec_transferFailed_released hw hp hs hb hx
  exact ⟨u, f, d, hexec⟩

/-- A double failure is reported as an error, never as a value. -/
theorem IsDoubleFaultResponse.exists_err {b : Build} {c : BusErr} {p : PinErr} {r : Response}
    (h : IsDoubleFaultResponse b c p r) : ∃ e, r = .err e := by
  unfold IsDoubleFaultResponse at h
  split at h
  case h_4 => exact h.elim (⟨_, ·⟩) (⟨_, ·⟩)
  all_goals exact ⟨_, h⟩

/-- Settles O27: the response to the failed deassert with an error held is the one error of row T5. -/
theorem doubleFailureReportsOneError : Obligations.DoubleFailureReportsOneError := by
  intro i s c p sa ba hw hp hs hb hx
  obtain ⟨u, f, first, l, d, hexec⟩ := exec_transferFailed_released hw hp hs hb hx
  have hdouble := isDoubleFaultResponse_responseAfterFailedDeassert s.build c f p first
  obtain ⟨e, he⟩ := hdouble.exists_err
  rw [he] at hdouble
  rw [responseToRelease, he, afterRead_err] at hexec
  exact ⟨u, f, e, l, d, hexec, hdouble⟩

/-- Settles O28: with no error held, `ERR_TYPING` decides the response to the failed deassert. -/
theorem failedDeassertAfterGoodTransfer : Obligations.FailedDeassertAfterGoodTransfer := by
  intro i s rx p sa ba hw hp hs hb
  obtain ⟨u, first, l, d, hexec⟩ := exec_transferred_released hw hp hs hb
  refine ⟨fun ht => ⟨u, l, d, ?_⟩, fun hbare => ⟨u, l, d, ?_⟩⟩
  · rwa [responseToRelease, responseAfterFailedDeassert_typed ht] at hexec
  · rwa [responseToRelease, responseAfterFailedDeassert_bare hbare] at hexec

/-- Settles O29: a read that has come back to `IDLE` is not in progress. -/
theorem endedReadHasAListedTrace : Obligations.EndedReadHasAListedTrace := by
  intro i s t hp h hidle
  obtain ⟨es, htrace, ⟨hbusy, _⟩ | ⟨_, r, hresponses, hread⟩⟩ := exec_readSoFar hp h
  · exact absurd hidle hbusy
  · exact ⟨es, r, htrace, hresponses, hread⟩

/-! ### The blocking function of R100 -/

section Reference

variable (b : Build) (a : Address) (u : Byte) (first : Bool)

/-- The level R100 gives after the deassert, where it gives one. -/
def referenceLevel : SelAnswer → Option Level
  | .ok => some .inactive
  | .fail _ => none

theorem levelAfterRelease_referenceLevel (l l' : Level) (z : SelAnswer) (h : referenceLevel z = some l') :
    levelAfterRelease l z = l' := by
  cases z with
  | ok => exact Option.some.inj h
  | fail p => cases h

theorem referenceRead_assertFailed_typed {p : PinErr} (y : BusAnswer) (z : SelAnswer) (he : b.errTyping = .typed) :
    referenceRead b a u first (.fail p) y z = some ⟨[.selActive (.fail p)], .err (.pin p), none⟩ := by
  simp only [referenceRead, he, if_true]

theorem referenceRead_assertFailed_bare {p : PinErr} (y : BusAnswer) (z : SelAnswer) (he : b.errTyping = .bare) :
    referenceRead b a u first (.fail p) y z = none := by
  simp [referenceRead, he]

theorem referenceRead_transferAborted {c : BusErr} (z : SelAnswer) (hx : b.xfailDeassert = false) :
    referenceRead b a u first .ok (.fail c) z =
      some ⟨[.selActive .ok, .xfer (outFrame a u) (.fail c)], .err (.comm c), some .active⟩ := by
  simp only [referenceRead, hx, if_true]
  rfl

theorem referenceRead_transferred (rx : Frame) (z : SelAnswer) :
    referenceRead b a u first .ok (.ok rx) z =
      some ⟨[.selActive .ok, .xfer (outFrame a u) (.ok rx), .selInactive z], responseToRelease b none rx first z,
        referenceLevel z⟩ := by
  cases z with
  | ok => rfl
  | fail p =>
    cases he : b.errTyping with
    | typed => simp only [referenceRead, responseToRelease, responseAfterFailedDeassert_typed he, he]; rfl
    | bare => simp only [referenceRead, responseToRelease, responseAfterFailedDeassert_bare he, he]; rfl

theorem referenceRead_transferFailed {c : BusErr} (tb : Frame) (z : SelAnswer) (hx : b.xfailDeassert = true) :
    referenceRead b a u first .ok (.fail c) z =
      some ⟨[.selActive .ok, .xfer (outFrame a u) (.fail c), .selInactive z], responseToRelease b (some c) tb first z,
        referenceLevel z⟩ := by
  cases z with
  | ok => simp only [referenceRead, hx]; rfl
  | fail p =>
    simp only [referenceRead, responseToRelease, responseAfterFailedDeassert, hx]
    cases b.errTyping with
    | bare => rfl
    | typed => cases b.doubleFault <;> rfl

end Reference

/-- Settles O30: row by row the function and the machine answer alike, with the byte and the choice that the machine
drew. -/
theorem readRefinesTheReference : Obligations.ReadRefinesTheReference := by
  intro i s x z y sa ba hw hp hs hb
  cases x with
  | fail p =>
    cases he : s.build.errTyping with
    | typed =>
      obtain ⟨l, d, hexec⟩ := exec_assertFailed hw hp hs he
      exact .inl ⟨_, 0, false, _, hexec, referenceRead_assertFailed_typed _ _ _ _ _ _ he, rfl, rfl, rfl, nofun⟩
    | bare =>
      exact .inr ⟨exec_assertFailed_bare hw hp hs he, fun _ _ => referenceRead_assertFailed_bare _ _ _ _ _ _ he⟩
  | ok =>
    cases y with
    | ok rx =>
      obtain ⟨u, first, l, d, hexec⟩ := exec_transferred_released hw hp hs hb
      exact .inl ⟨_, u, first, _, hexec, referenceRead_transferred _ _ _ _ _ _, rfl, rfl, rfl,
        fun l' => levelAfterRelease_referenceLevel l l' z⟩
    | fail c =>
      cases hx : s.build.xfailDeassert with
      | false =>
        obtain ⟨u, f, d, hexec⟩ := exec_transferAborted hw hp hs hb hx
        exact .inl ⟨_, u, false, _, hexec, referenceRead_transferAborted _ _ _ _ _ hx, rfl, rfl, rfl,
          fun _ => Option.some.inj⟩
      | true =>
        obtain ⟨u, f, first, l, d, hexec⟩ := exec_transferFailed_released hw hp hs hb hx
        exact .inl ⟨_, u, first, _, hexec, referenceRead_transferFailed _ _ _ _ f _ hx, rfl, rfl, rfl,
          fun l' => levelAfterRelease_referenceLevel l l' z⟩

/-! ### The read that answers a value -/

/-- Of the listed reads T1 and, under `BARE`, T6 answer a value (R99). -/
theorem IsRead.calls_of_value {b : Build} {a : Address} {es : List Event} {v : Container} {l : Level}
    (h : IsRead b a es (.ok v) l) :
    ∃ tx rx z, es = [.selActive .ok, .xfer tx (.ok rx), .selInactive z] ∧ (b.errTyping = .typed → z = .ok) := by
  obtain ⟨p, rfl⟩ | ⟨tx, x, rfl⟩ | ⟨tx, x, z, rfl⟩ := h.events
  · exact nomatch h.2
  · cases x with
    | ok rx => exact h.elim
    | fail c => obtain ⟨_, _, hr, _⟩ := h; cases hr
  · cases x with
    | ok rx =>
      refine ⟨tx, rx, z, rfl, fun ht => ?_⟩
      cases z with
      | ok => rfl
      | fail p => obtain ⟨_, hr, _⟩ := h; cases hr ht
    | fail c =>
      cases z with
      | ok => obtain ⟨_, _, hr, _⟩ := h; cases hr
      | fail p =>
        obtain ⟨_, _, hdouble⟩ := h
        obtain ⟨e, hr⟩ := hdouble.exists_err
        cases hr

/-- Settles O36: a read that has responded has ended, with a listed trace. -/
theorem successfulReadMakesThreeCalls : Obligations.SuccessfulReadMakesThreeCalls := by
  intro i s t v hp h hv
  obtain ⟨es, htrace, ⟨_, hresponses, _⟩ | ⟨_, r, hresponses, hread⟩⟩ := exec_readSoFar hp h
  · have hnone : s.responses ++ [.ok v] = s.responses := hv.symm.trans hresponses
    simp at hnone
  · have hone : s.responses ++ [.ok v] = s.responses ++ [r] := hv.symm.trans hresponses
    obtain rfl : .ok v = r := by simpa using hone
    obtain ⟨tx, rx, z, rfl, hz⟩ := hread.calls_of_value
    exact ⟨tx, rx, z, htrace, hz⟩

end Sys2Proof.Machine

/-! The instructions of 42_read_channel8.md, each by its own frame: row T1 of 41_channel_read_protocol.md R101. -/

namespace Sys2Proof.Machine

/-- Row T1 for any instruction of the device: the deassert answered `Ok` ends the read with the value. -/
theorem exec_completes {i : Instr} {s : State} {rx : Frame} {sa : List SelAnswer} {ba : List BusAnswer}
    (hw : i.wf s.build.variant = true) (hp : s.ph = .idle) (hs : s.selAnswers = .ok :: .ok :: sa)
    (hb : s.busAnswers = .ok rx :: ba) :
    ∃ u d, exec i s = .next (afterGoodRead s i.address (encode i u) rx sa ba d) := by
  obtain ⟨u, _, _, d, hexec⟩ := exec_transferred_released hw hp hs hb
  exact ⟨u, d, hexec⟩

/-- Settles O21: each is an instruction of the device, and its address and its command byte evaluate to its row's. -/
theorem channel8ReadCompletes : Obligations.Channel8ReadCompletes := by
  intro s rx sa ba hv hp hs hb
  have hread (i : Instr) (hi : i.variant = .channel8) :
      ∃ u d, exec i s = .next (afterGoodRead s i.address (encode i u) rx sa ba d) :=
    exec_completes ((Instr.wf_iff _ i).mpr (hi.trans hv.symm)) hp hs hb
  exact ⟨hread .c8ch0 rfl, hread .c8ch1 rfl, hread .c8ch2 rfl, hread .c8ch3 rfl,
    hread .c8ch4 rfl, hread .c8ch5 rfl, hread .c8ch6 rfl, hread .c8ch7 rfl⟩

end Sys2Proof.Machine

/-! The instructions of 43_read_channel4.md, each by its own frame: row T1 of 41_channel_read_protocol.md R101. -/

namespace Sys2Proof.Machine

/-- Settles O22: row T1 at each Channel-4 instruction, whose address and command byte evaluate to those of
R118 to R121. -/
theorem channel4ReadCompletes : Obligations.Channel4ReadCompletes := by
  intro s rx sa ba hv hp hs hb
  have hread (i : Instr) (hi : i.variant = .channel4) :
      ∃ u d, exec i s = .next (afterGoodRead s i.address (encode i u) rx sa ba d) :=
    exec_completes ((Instr.wf_iff _ i).mpr (hi.trans hv.symm)) hp hs hb
  exact ⟨hread .c4ch0 rfl, hread .c4ch1 rfl, hread .c4ch2 rfl, hread .c4ch3 rfl⟩

end Sys2Proof.Machine

/-! An error response names the failed call of its own read (60_exceptions.md R131, R132). -/

namespace Sys2Proof.Machine

/-- The error `e` has its cause among the events `es`: for `COMM` a failed transfer, for `PIN` a failed select-line
call under `TYPED`, each with the error's own value. -/
def HasCause (b : Build) (es : List Event) (e : ReadError) : Prop :=
  match e with
  | .comm c => ∃ tx, .xfer tx (.fail c) ∈ es
  | .pin p => b.errTyping = .typed ∧ (.selActive (.fail p) ∈ es ∨ .selInactive (.fail p) ∈ es)

/-- The response to a double failure is the transfer's error, or under `TYPED` the select line's. -/
theorem IsDoubleFaultResponse.comm_or_pin {b : Build} {c : BusErr} {p : PinErr} {r : Response}
    (h : IsDoubleFaultResponse b c p r) : r = .err (.comm c) ∨ b.errTyping = .typed ∧ r = .err (.pin p) := by
  unfold IsDoubleFaultResponse at h
  split at h
  case h_1 | h_2 => exact .inl h
  case h_3 ht _ => exact .inr ⟨ht, h⟩
  case h_4 ht _ => exact h.imp_right (⟨ht, ·⟩)

/-- The rows of R101's table that answer an error, each with the call that failed. -/
theorem IsRead.hasCause {b : Build} {a : Address} {es : List Event} {e : ReadError} {l : Level}
    (h : IsRead b a es (.err e) l) : HasCause b es e := by
  unfold IsRead at h
  split at h
  case h_1 => exact nomatch h.2.1
  case h_2 p =>
    obtain ⟨ht, hr⟩ := h
    cases hr
    exact ⟨ht, .inl (by simp)⟩
  case h_3 tx c | h_4 tx c =>
    obtain ⟨_, _, hr, _⟩ := h
    cases hr
    exact ⟨tx, by simp⟩
  case h_5 tx c p =>
    obtain ⟨_, _, hdouble⟩ := h
    obtain hr | ⟨ht, hr⟩ := hdouble.comm_or_pin <;> cases hr
    · exact ⟨tx, by simp⟩
    · exact ⟨ht, .inr (by simp)⟩
  case h_6 p =>
    obtain ⟨_, htyped, hbare⟩ := h
    cases ht : b.errTyping with
    | typed =>
      cases htyped ht
      exact ⟨ht, .inr (by simp)⟩
    | bare => exact nomatch hbare ht
  case h_7 => exact h.elim

/-- An instruction that gave a response ended its read, with a listed trace. -/
theorem exec_isRead_of_response {i : Instr} {s t : State} {r : Response} (hp : s.ph = .idle)
    (h : exec i s = .next t) (hr : t.responses = s.responses ++ [r]) :
    ∃ es, t.trace = s.trace ++ es ∧ IsRead s.build i.address es r t.sel := by
  obtain ⟨es, htrace, ⟨_, hresponses, _⟩ | ⟨_, r', hresponses, hread⟩⟩ := exec_readSoFar hp h
  · have hnone : s.responses ++ [r] = s.responses := hr.symm.trans hresponses
    simp at hnone
  · have hone : s.responses ++ [r] = s.responses ++ [r'] := hr.symm.trans hresponses
    obtain rfl : r = r' := by simpa using hone
    exact ⟨es, htrace, hread⟩

/-- Settles O37: the read that gave the error has a listed trace, which holds the error's cause. -/
theorem errorsNameTheirCause : Obligations.ErrorsNameTheirCause := by
  intro i s t hp h
  refine ⟨fun c hc => ?_, fun p hpin => ?_⟩
  · obtain ⟨es, htrace, hread⟩ := exec_isRead_of_response hp h hc
    obtain ⟨tx, hmem⟩ : HasCause s.build es (.comm c) := hread.hasCause
    exact ⟨es, tx, htrace, hmem⟩
  · obtain ⟨es, htrace, hread⟩ := exec_isRead_of_response hp h hpin
    obtain ⟨ht, hmem⟩ : HasCause s.build es (.pin p) := hread.hasCause
    exact ⟨ht, es, htrace, hmem⟩

end Sys2Proof.Machine

/-! A reset presented during a read, and an idle block with nothing presented (70_reset_and_hazards.md R161, R163). -/

namespace Sys2Proof.Machine

/-- Settles O40: the step is `newBlock` with the request taken, and a busy block refuses that. -/
theorem newDuringAReadIsRefused : Obligations.NewDuringAReadIsRefused := by
  intro s rest hp hr
  calc step s
    _ = newBlock (s.setRequests rest) := step_new s rest hr
    _ = .refused .resetDuringRead := newBlock_busy (s.setRequests rest) hp

/-- Settles O20: with nothing presented the step is a transition of the sequencer, which has none in `IDLE`. -/
theorem idleBlockWaits : Obligations.IdleBlockWaits :=
  fun s hp hr => (step_nothing_presented s hr).trans (advance_idle s hp)

end Sys2Proof.Machine
